-- ==== Sys2Proof/Word.lean ====
section
/-!
DEFINITION. The word types of VERA-FC (spec/00_scope.md R6: registers of 32 bits, host byte addresses of
16 bits; spec/30_encoding.md R84: a bus transaction of 49 bits).
-/

namespace Sys2Proof

/-- A character of a frame or a raw payload byte: one element of TXBUF, RXBUF or PBUF (R37 to R39). -/
abbrev Byte := BitVec 8

/-- The width of a block register and of the data of a host access (R6, R62). -/
abbrev Word := BitVec 32

/-- A byte address of the host register space (R60). -/
abbrev HAddr := BitVec 16

/-- A host transaction `{WE, ADDR[15:0], DATA[31:0]}` (R84). -/
abbrev BusWord := BitVec 49

end Sys2Proof
end

