-- ==== Sys2Proof/Syntax.lean ====
section
/-!
DEFINITION. The instructions of VERA-FC: one constructor for each row of spec/opcode_table.json, the seven
commands (format CMDW) and the two host bus operations (format BUS), and the words that encode them (spec/30_encoding.md R80).
-/

namespace Sys2Proof

/-- The rows of the opcode table. A command has no operand field (R81): its operands are in registers. -/
inductive Instr where
  /-- NOP (R170). -/
  | nop
  /-- ENCODE (R130). -/
  | encode
  /-- DECODE (R140). -/
  | decode
  /-- CRC_INIT (R115). -/
  | crcInit
  /-- CRC_BYTE (R116). -/
  | crcByte
  /-- CRC_CHECK (R117). -/
  | crcCheck
  /-- CLEAR (R171). -/
  | clear
  /-- HOST_READ of a byte address (R174). -/
  | hostRead (addr : HAddr)
  /-- HOST_WRITE of a word to a byte address (R173). -/
  | hostWrite (addr : HAddr) (data : Word)
  deriving DecidableEq, Repr

/-- The commands a write to CMD can select (R82). -/
inductive Command where
  | nop | encode | decode | crcInit | crcByte | crcCheck | clear
  deriving DecidableEq, Repr

/-- The instruction of the opcode table that a command is. -/
def Command.toInstr : Command → Instr
  | .nop => .nop
  | .encode => .encode
  | .decode => .decode
  | .crcInit => .crcInit
  | .crcByte => .crcByte
  | .crcCheck => .crcCheck
  | .clear => .clear

/-- A word of one of the two instruction formats of R80. A `cmdw` stands for the host's write of that word to
CMD (R80: 'the value of a host write to CMD'; assumption 3). -/
inductive RawWord where
  /-- A 32-bit command word (R81). -/
  | cmdw (v : Word)
  /-- A 49-bit host transaction (R84). -/
  | bus (t : BusWord)
  deriving DecidableEq, Repr

/-- Why a command word is illegal: the two bullets of R83. -/
inductive DecodeError where
  /-- CMDW[31:8] is not zero. -/
  | reservedBitsSet (v : Word)
  /-- CODE is one of 0x07 to 0xFF. -/
  | undefinedCode (v : Word)
  deriving DecidableEq, Repr

end Sys2Proof
end

