-- ==== Sys2Proof/WellFormed.lean ====
section
/-!
DEFINITION. Well-formed instructions and well-formed instruction words (spec/30_encoding.md R81 to R84).

The operands of an `Instr` have exactly the widths of their encoding fields (R84), so every term of it can be
encoded. What can be ill formed is a WORD: a command word has the two checks of R83. Alignment and mapping of an
address are no part of this: a transaction to a bad address is well formed and has the effect of R192.
-/

namespace Sys2Proof

/-- Every instruction fits its encoding: a command has no operands (R81), and ADDR and DATA take every value of
their 16 and 32 bits (R84). -/
def Instr.wellFormed : Instr → Bool
  | .nop => true
  | .encode => true
  | .decode => true
  | .crcInit => true
  | .crcByte => true
  | .crcCheck => true
  | .clear => true
  | .hostRead _ => true
  | .hostWrite _ _ => true

/-- R81, R83: RSVD = CMDW[31:8] must be zero. -/
def cmdwReservedClear (v : Word) : Bool := v.extractLsb' 8 24 == 0

/-- R82, R83: CODE = CMDW[7:0] is one of 0x00 to 0x06. -/
def cmdwCodeDefined (v : Word) : Bool := decide (v.extractLsb' 0 8 ≤ (0x06 : Byte))

/-- A word that encodes an instruction: a command word that R83 does not call illegal, or any transaction. -/
def RawWord.wellFormed : RawWord → Bool
  | .cmdw v => cmdwReservedClear v && cmdwCodeDefined v
  | .bus _ => true

end Sys2Proof
end

