-- ==== Sys2Proof/Decode.lean ====
section
/-!
DEFINITION. Decoding and encoding of the two instruction formats (spec/30_encoding.md R80 to R84 and
spec/opcode_table.json): the decoder, total on every word and rejecting by name, then the encoder.
-/

namespace Sys2Proof

/-- CODE = CMDW[7:0] (R81). -/
def cmdwCode (v : Word) : Byte := v.extractLsb' 0 8

/-- RSVD = CMDW[31:8] (R81). -/
def cmdwReserved (v : Word) : BitVec 24 := v.extractLsb' 8 24

/-- The command map of R82, over CODE alone. -/
def commandOfCode (code : Byte) : Option Command :=
  match code.toNat with
  | 0x00 => some .nop
  | 0x01 => some .encode
  | 0x02 => some .decode
  | 0x03 => some .crcInit
  | 0x04 => some .crcByte
  | 0x05 => some .crcCheck
  | 0x06 => some .clear
  | _ => none

/-- The command a CMDW selects (R82), or which of the two ways of R83 makes it illegal. -/
def decodeCommand (v : Word) : Except DecodeError Command :=
  if cmdwReserved v ≠ 0 then .error (.reservedBitsSet v)
  else
    match commandOfCode (cmdwCode v) with
    | some c => .ok c
    | none => .error (.undefinedCode v)

/-- WE = bit 48 of a transaction (R84). -/
def busWe (t : BusWord) : Bool := t.getLsbD 48

/-- ADDR = bits [47:32] of a transaction (R84). -/
def busAddr (t : BusWord) : HAddr := t.extractLsb' 32 16

/-- DATA = bits [31:0] of a transaction (R84). -/
def busData (t : BusWord) : Word := t.extractLsb' 0 32

/-- R84: WE selects the operation; DATA is ignored for HOST_READ. -/
def decodeBus (t : BusWord) : Instr :=
  if busWe t then .hostWrite (busAddr t) (busData t) else .hostRead (busAddr t)

/-- The decoder: every transaction decodes, and a command word decodes unless R83 makes it illegal. -/
def decode : RawWord → Except DecodeError Instr
  | .cmdw v =>
    match decodeCommand v with
    | .ok c => .ok c.toInstr
    | .error e => .error e
  | .bus t => .ok (decodeBus t)

/-- The transaction `{WE, ADDR, DATA}` with these fields (R84). -/
def busWord (we : BitVec 1) (addr : HAddr) (data : Word) : BusWord := we ++ addr ++ data

/-- The encoder, from the encoding column of the opcode table. The DATA of a HOST_READ is ignored (R84); it is
written as 0, as spec/95_test_vectors.md writes it. -/
def encode : Instr → RawWord
  | .nop => .cmdw 0x00000000
  | .encode => .cmdw 0x00000001
  | .decode => .cmdw 0x00000002
  | .crcInit => .cmdw 0x00000003
  | .crcByte => .cmdw 0x00000004
  | .crcCheck => .cmdw 0x00000005
  | .clear => .cmdw 0x00000006
  | .hostRead addr => .bus (busWord 0 addr 0)
  | .hostWrite addr data => .bus (busWord 1 addr data)

/-- The word of `nbits` bits (in whole bytes) with value `w`, as the block is given it: a row of 32 bits is a
CMDW, a row of 49 bits (56 in whole bytes) a bus transaction (R80). R80 has no other width. DESIGN CHOICE (assumption 14): a
word of any width up to 32 is read as a CMDW, zero-extended, and any wider one as a transaction, with the bits of `w` above the
form's own (31, or 48) dropped. -/
def rawOfTableWord (nbits w : Nat) : RawWord :=
  if nbits ≤ 32 then .cmdw (BitVec.ofNat 32 w) else .bus (BitVec.ofNat 49 w)

/-- The instruction the decoder reads from an instruction whose bits are `w`, or none where it refuses. -/
def decodeTableWord (nbits w : Nat) : Option Instr :=
  match decode (rawOfTableWord nbits w) with
  | .ok i => some i
  | .error _ => none

end Sys2Proof
end

