-- ==== Sys2Proof/Config.lean ====
section
/-!
DEFINITION. What an implementation fixes (spec/00_scope.md R6), the constants the block carries (R12, R13),
and the one value the spec leaves free (spec/10_state.md R38, spec/93_implementation_defined.md U6).
-/

namespace Sys2Proof.Config

/-- ENC_PAYLOAD_BYTES of R6: operation, register, value. -/
abbrev encPayloadBytes : Nat := 3

/-- ENC_FRAME_CHARS of R6: the length of TXBUF. -/
abbrev encFrameChars : Nat := 24

/-- FRAME_OVERHEAD_CHARS of R6: header, LEN, CRC and footer. -/
abbrev frameOverheadChars : Nat := 18

/-- RXCAP of R6: the receive buffer's capacity in characters (assumption 8 takes the spec's default). -/
abbrev rxCap : Nat := 528

/-- The size of PBUF of R6. -/
abbrev pbufBytes : Nat := 255

/-- The arbitrary byte that RXBUF element `element` holds after the reset numbered `resetNo` (R38, R210, U6:
'a draw under no law'). A FREE VALUE: it has no body, so nothing can be proved of it (assumption 1). -/
opaque rxbufDraw (resetNo element : Nat) : Byte

/-- The operation constants of R12. The block never checks an OP byte against them (D13). -/
inductive Operation where
  | write
  | read
  deriving DecidableEq, Repr

/-- R12: the byte of each operation. -/
def Operation.code : Operation → Byte
  | .write => 0x00
  | .read => 0x01

/-- The peripheral register identifiers of R13. The block never checks a REG byte against them (D13). -/
inductive PeripheralReg where
  | firmId | senshwId | sensId | wdr | mirror | denoise | agc | lowlight
  | daynight | shutter | bright | aespeed | contrast | sat | sharp | overlay
  deriving DecidableEq, Repr

/-- R13: the byte of each peripheral register. -/
def PeripheralReg.code : PeripheralReg → Byte
  | .firmId => 0x00
  | .senshwId => 0x04
  | .sensId => 0x08
  | .wdr => 0x0C
  | .mirror => 0x10
  | .denoise => 0x14
  | .agc => 0x18
  | .lowlight => 0x1C
  | .daynight => 0x20
  | .shutter => 0x24
  | .bright => 0x28
  | .aespeed => 0x2C
  | .contrast => 0x30
  | .sat => 0x34
  | .sharp => 0x38
  | .overlay => 0x3C

end Sys2Proof.Config
end

