-- ==== Sys2Proof/Machine/State.lean ====
section
/-!
DEFINITION. The state of VERA-FC: every register and buffer of spec/10_state.md R22, each held at the width of
its meaningful bits (a reserved bit holds nothing, R40), what the host's side of the port holds (spec/60_exceptions.md R192,
spec/43_control.md R174), and the reasons a step can stop.

CMD holds no state (R23) and CRC_OUT is a view of CRC_ACC (R34): neither is a field.
-/

namespace Sys2Proof.Machine

/-- The direction of a host transaction (R192). -/
inductive Direction where
  | read
  | write
  deriving DecidableEq, Repr

/-- A HostAccessFault as R192 has it recorded: the faulting address and the direction. -/
structure HostFault where
  dir : Direction
  addr : HAddr
  deriving DecidableEq, Repr

/-- What the outside world does to the block, one event at a time (R11, R70): a transaction or command word of
the host, or the reset input asserted (R210). -/
inductive HostEvent where
  /-- The host presents a transaction or a command word (R80). -/
  | present (w : RawWord)
  /-- The reset input is asserted and released (R210). -/
  | reset
  deriving DecidableEq, Repr

/-- Every piece of state the spec gives the block, then what stands on the host's side of the port, then the
model's own two fields. -/
structure State where
  /-- STATUS.RESULT, bits [2:0] (R24, R190). -/
  statusResult : BitVec 3
  /-- STATUS.FCAUSE, bits [6:4] (R24, R191). -/
  statusFcause : BitVec 3
  /-- STATUS.DEC_VALID, bit [8] (R24). -/
  statusDecValid : Bool
  /-- ENC_IN[23:0] (R25). -/
  encIn : BitVec 24
  /-- ENC_CRC (R26). -/
  encCrc : Word
  /-- TX_COUNT[7:0] (R27). -/
  txCount : BitVec 8
  /-- RX_COUNT[15:0] (R28). -/
  rxCount : BitVec 16
  /-- DEC_LEN[7:0] (R29). -/
  decLen : BitVec 8
  /-- DEC_FIELDS[23:0] (R30). -/
  decFields : BitVec 24
  /-- CRC_EXP (R31). -/
  crcExp : Word
  /-- CRC_ACT (R32). -/
  crcAct : Word
  /-- CRC_ACC (R33). -/
  crcAcc : Word
  /-- CRC_DIN[7:0] (R35). -/
  crcDin : BitVec 8
  /-- CRC_CMP (R36). -/
  crcCmp : Word
  /-- TXBUF[0..24) (R37). -/
  txbuf : Vector Byte 24
  /-- RXBUF[0..528) (R38). -/
  rxbuf : Vector Byte 528
  /-- PBUF[0..255) (R39). -/
  pbuf : Vector Byte 255
  /-- The HostAccessFaults recorded so far, oldest first: 'recorded, never cleared' (R192; assumption 5). -/
  hostFaults : List HostFault
  /-- The word the last HOST_READ returned to the host, none when there was no read or it returned no data
  (R84, R174, R192; assumption 4). -/
  readData : Option Word
  /-- The model's own field: the host's coming events, the next one first (R11, R95; assumption 2). -/
  hostQueue : List HostEvent
  /-- The model's own field: how often the reset input was asserted in the run, the argument of the free value
  `Config.rxbufDraw` (assumption 1). -/
  resetCount : Nat
  deriving DecidableEq, Repr

/-- Why a machine stops. It has no constructor: the spec gives every command and every transaction a next state
('No rule uses the treatment stuck: every command and every bus transaction completes',
spec/93_implementation_defined.md section 2), and a HostAccessFault is recorded in the state (R192; assumption 5).
Nothing raises one, which is safe: no step stops where the block goes on. -/
inductive Fault : Type
  deriving DecidableEq, Repr

/-- Why an instruction is given no meaning. -/
inductive Refusal where
  /-- An instruction of the opcode table without a meaning, raised by an arm of `exec` alone; no arm raises it
  in this model, since every row has its meaning. Safe: nothing is claimed of a refused instruction. -/
  | notModelled (mnemonic : String)
  deriving DecidableEq, Repr

/-- The block right after its first reset (R210, R22), no host event waiting, nothing read, no fault recorded.
Each RXBUF element holds the free byte `Config.rxbufDraw 0` gives it (assumption 1). -/
def State.reset : State where
  statusResult := 0
  statusFcause := 0
  statusDecValid := false
  encIn := 0
  encCrc := 0
  txCount := 0
  rxCount := 0
  decLen := 0
  decFields := 0
  crcExp := 0
  crcAct := 0
  crcAcc := 0xFFFFFFFF
  crcDin := 0
  crcCmp := 0
  txbuf := Vector.replicate 24 0
  rxbuf := Vector.ofFn fun i => Config.rxbufDraw 0 i.val
  pbuf := Vector.replicate 255 0
  hostFaults := []
  readData := none
  hostQueue := []
  resetCount := 0

end Sys2Proof.Machine
end

