-- ==== Sys2Proof/Machine/AddressMap.lean ====
section
/-!
DEFINITION. The address map of the host register space and the static access rights (spec/10_state.md R22,
spec/20_memory.md R60 to R62).
-/

namespace Sys2Proof.Machine

/-- The registers and buffer elements of R22. -/
inductive Location where
  | cmd | status | encIn | encCrc | txCount | rxCount | decLen | decFields
  | crcExp | crcAct | crcAcc | crcOut | crcDin | crcCmp
  | txbuf (i : Fin 24)
  | rxbuf (i : Fin 528)
  | pbuf (i : Fin 255)
  deriving DecidableEq, Repr

/-- The host-written inputs: the locations a host write stores into (R22, R43). -/
inductive HostInput where
  | encIn | rxCount | crcDin | crcCmp
  | rxbuf (i : Fin 528)
  deriving DecidableEq, Repr

/-- What a host write to a location does (the access column of R22). -/
inductive WriteEffect where
  /-- RO: the write raises HostAccessFault. -/
  | readOnly
  /-- CMD: the write runs a command (R23). -/
  | runsCommand
  /-- RW: the write stores its meaningful bits (R40). -/
  | stores (input : HostInput)
  deriving DecidableEq, Repr

/-- The byte offset of each location (the offset column of R22). -/
def Location.offset : Location → HAddr
  | .cmd => 0x0000
  | .status => 0x0004
  | .encIn => 0x0008
  | .encCrc => 0x000C
  | .txCount => 0x0010
  | .rxCount => 0x0014
  | .decLen => 0x0018
  | .decFields => 0x001C
  | .crcExp => 0x0020
  | .crcAct => 0x0024
  | .crcAcc => 0x0028
  | .crcOut => 0x002C
  | .crcDin => 0x0030
  | .crcCmp => 0x0034
  | .txbuf i => BitVec.ofNat 16 (0x0100 + 4 * i.val)
  | .rxbuf i => BitVec.ofNat 16 (0x1000 + 4 * i.val)
  | .pbuf i => BitVec.ofNat 16 (0x2000 + 4 * i.val)

/-- The access rights of R22. -/
def Location.writeEffect : Location → WriteEffect
  | .cmd => .runsCommand
  | .encIn => .stores .encIn
  | .rxCount => .stores .rxCount
  | .crcDin => .stores .crcDin
  | .crcCmp => .stores .crcCmp
  | .rxbuf i => .stores (.rxbuf i)
  | .status => .readOnly
  | .encCrc => .readOnly
  | .txCount => .readOnly
  | .decLen => .readOnly
  | .decFields => .readOnly
  | .crcExp => .readOnly
  | .crcAct => .readOnly
  | .crcAcc => .readOnly
  | .crcOut => .readOnly
  | .txbuf _ => .readOnly
  | .pbuf _ => .readOnly

/-- addr[1:0] != 0 (R62). -/
def misaligned (addr : HAddr) : Bool := addr.extractLsb' 0 2 != 0

/-- Index `i` of the buffer of `n` words at `base`, where the address is one of its words (R61). -/
def bufferIndex (base n : Nat) (addr : Nat) : Option (Fin n) :=
  if h : base ≤ addr ∧ addr < base + 4 * n ∧ addr % 4 = 0 then some ⟨(addr - base) / 4, by omega⟩ else none

/-- The location at a byte address, none where R61 maps nothing. -/
def locate (addr : HAddr) : Option Location :=
  match addr.toNat with
  | 0x0000 => some .cmd
  | 0x0004 => some .status
  | 0x0008 => some .encIn
  | 0x000C => some .encCrc
  | 0x0010 => some .txCount
  | 0x0014 => some .rxCount
  | 0x0018 => some .decLen
  | 0x001C => some .decFields
  | 0x0020 => some .crcExp
  | 0x0024 => some .crcAct
  | 0x0028 => some .crcAcc
  | 0x002C => some .crcOut
  | 0x0030 => some .crcDin
  | 0x0034 => some .crcCmp
  | a =>
    match bufferIndex 0x0100 24 a, bufferIndex 0x1000 528 a, bufferIndex 0x2000 255 a with
    | some i, _, _ => some (.txbuf i)
    | none, some i, _ => some (.rxbuf i)
    | none, none, some i => some (.pbuf i)
    | none, none, none => none

end Sys2Proof.Machine
end

