-- ==== Sys2Proof/Machine/Flags.lean ====
section
/-!
DEFINITION. STATUS: its codes, how a command reports its outcome in it, and the word it reads as
(spec/10_state.md R24, R41; spec/60_exceptions.md R190, R191).
-/

namespace Sys2Proof.Machine

/-- The result codes of R190. Codes 5 to 7 are reserved and never written. -/
inductive ResultCode where
  | ok
  | framingError
  | checksumMismatch
  | illegalCommand
  | badCount
  deriving DecidableEq, Repr

/-- R190: the value of STATUS.RESULT for each outcome. -/
def ResultCode.code : ResultCode → BitVec 3
  | .ok => 0
  | .framingError => 1
  | .checksumMismatch => 2
  | .illegalCommand => 3
  | .badCount => 4

/-- The framing causes of R191. -/
inductive FCause where
  | none
  | header
  | footer
  | lenNotHex
  | truncated
  | overlong
  | payloadNotHex
  | crcFieldNotHex
  deriving DecidableEq, Repr

/-- R191: the value of STATUS.FCAUSE for each cause. -/
def FCause.code : FCause → BitVec 3
  | .none => 0
  | .header => 1
  | .footer => 2
  | .lenNotHex => 3
  | .truncated => 4
  | .overlong => 5
  | .payloadNotHex => 6
  | .crcFieldNotHex => 7

/-- `STATUS.RESULT <- r ; STATUS.FCAUSE <- c`, DEC_VALID unchanged: how every command but NOP ends (R41). -/
def setOutcome (r : ResultCode) (c : FCause) (s : State) : State :=
  { s with statusResult := r.code, statusFcause := c.code }

/-- A command that ends with RESULT = OK and FCAUSE = 0 (R190). -/
def setOk (s : State) : State := setOutcome .ok .none s

/-- The 32-bit word STATUS reads as: the fields at their places, every reserved bit 0 (R24). -/
def statusWord (s : State) : Word :=
  (0 : BitVec 23) ++ BitVec.ofBool s.statusDecValid ++ (0 : BitVec 1) ++ s.statusFcause ++ (0 : BitVec 1) ++
    s.statusResult

end Sys2Proof.Machine
end

