-- ==== Sys2Proof/Machine/Crc.lean ====
section
/-!
DEFINITION. The CRC-32 function (spec/40_crc.md R110, R111).
-/

namespace Sys2Proof.Machine

/-- One turn of the loop of R110: shift right, and xor the reversed polynomial when bit 0 was set. -/
def crcShift (t : Word) : Word :=
  if t.getLsbD 0 then (t >>> 1) ^^^ 0xEDB88320 else t >>> 1

/-- `n` turns of the loop of R110. -/
def crcShifts : Nat → Word → Word
  | 0, t => t
  | n + 1, t => crcShifts n (crcShift t)

/-- `crcStep(c, b)` of R110. -/
def crcStep (c : Word) (b : Byte) : Word := crcShifts 8 (c ^^^ b.setWidth 32)

/-- The CRC register after the bytes `p`, started from 0xFFFFFFFF (the loop of R111). -/
def crcRegister (p : List Byte) : Word := p.foldl crcStep 0xFFFFFFFF

/-- `crc32(p)` of R111, total over every byte sequence. -/
def crc32 (p : List Byte) : Word := crcRegister p ^^^ 0xFFFFFFFF

end Sys2Proof.Machine
end

