-- ==== Sys2Proof/Machine/Hex.lean ====
section
/-!
DEFINITION. Hex characters and their values (spec/30_encoding.md R86 to R90, spec/20_memory.md R64: the most
significant digit first).
-/

namespace Sys2Proof.Machine

/-- R87: '0' to '9', 'A' to 'F' and 'a' to 'f' are hex digits, and no other byte is. -/
def isHex (b : Byte) : Bool :=
  (decide (0x30 ≤ b) && decide (b ≤ 0x39)) || (decide (0x41 ≤ b) && decide (b ≤ 0x46)) ||
    (decide (0x61 ≤ b) && decide (b ≤ 0x66))

/-- R88: the value of a hex digit. Every use stands behind an `isHex` check. -/
def hexVal (b : Byte) : BitVec 4 :=
  if b ≤ 0x39 then (b - 0x30).setWidth 4
  else if b ≤ 0x46 then (b - 0x41 + 10).setWidth 4
  else (b - 0x61 + 10).setWidth 4

/-- R88: the pair `(h, l)` stands for the byte `16*hexVal(h) + hexVal(l)`. -/
def hexPair (h l : Byte) : Byte := hexVal h ++ hexVal l

/-- R88: the number a field of hex characters stands for, the first character most significant. -/
def hexNumber (cs : List Byte) : Word :=
  cs.foldl (fun acc c => (acc <<< 4) ||| (hexVal c).setWidth 32) 0

/-- R93: the bytes that pairs of hex characters stand for, in order. -/
def unhex : List Byte → List Byte
  | h :: l :: rest => hexPair h l :: unhex rest
  | _ => []

/-- R89: the uppercase ASCII hex digit of a 4-bit value. -/
def hexChar (n : BitVec 4) : Byte :=
  if n ≤ 9 then 0x30 + n.setWidth 8 else 0x41 + (n.setWidth 8 - 10)

/-- R90: a byte as two digits. -/
def hex2 (v : Byte) : List Byte := [hexChar (v.extractLsb' 4 4), hexChar (v.extractLsb' 0 4)]

/-- R90: a 32-bit value as eight digits. -/
def hex8 (w : Word) : List Byte :=
  [hexChar (w.extractLsb' 28 4), hexChar (w.extractLsb' 24 4), hexChar (w.extractLsb' 20 4),
    hexChar (w.extractLsb' 16 4), hexChar (w.extractLsb' 12 4), hexChar (w.extractLsb' 8 4),
    hexChar (w.extractLsb' 4 4), hexChar (w.extractLsb' 0 4)]

end Sys2Proof.Machine
end

