-- ==== Sys2Proof/Machine/Frame.lean ====
section
/-!
DEFINITION. The frame as text: building one (spec/30_encoding.md R85, R91; spec/41_frame_encode.md R130) and judging
a candidate (spec/42_frame_decode.md R140, steps S1 to S8). Both are functions of their text alone (R142, R143).
-/

namespace Sys2Proof.Machine

/-- The HEADER characters "AA55" (R85, R86). -/
def headerMarker : List Byte := [0x41, 0x41, 0x35, 0x35]

/-- The FOOTER characters "55AA" (R85, R86). -/
def footerMarker : List Byte := [0x35, 0x35, 0x41, 0x41]

/-- The hex characters of a payload (the PAYLOAD field of R85). -/
def payloadText (p : List Byte) : List Byte := p.flatMap hex2

/-- The frame of R85 for a payload of at most 255 bytes. -/
def frameText (p : List Byte) : List Byte :=
  headerMarker ++ hex2 (BitVec.ofNat 8 p.length) ++ payloadText p ++ hex8 (crc32 p) ++ footerMarker

/-- `s[i]`, 0 past the end: every rule bounds the index first. -/
def charAt (s : List Byte) (i : Nat) : Byte := s.getD i 0

/-- `s[a..b)` of R7. -/
def slice (s : List Byte) (a b : Nat) : List Byte := (s.take b).drop a

/-- The PAYLOAD characters `s[6..6+2L)` (R85). -/
def payloadChars (s : List Byte) (len : Nat) : List Byte := slice s 6 (6 + 2 * len)

/-- The CRC32 characters `s[6+2L..14+2L)` (R85). -/
def crcChars (s : List Byte) (len : Nat) : List Byte := slice s (6 + 2 * len) (14 + 2 * len)

/-- What DECODE finds of a candidate frame: which framing check fails, the two checksums that differ, or the
frame's fields. -/
inductive FrameOutcome where
  /-- S1 to S7 of R140: the first check that fails. -/
  | framingError (cause : FCause)
  /-- S8 of R140: ChecksumMismatch with the recomputed and the transmitted value. -/
  | checksumMismatch (expected actual : Word)
  /-- S9 of R140: LEN, the payload bytes, and the two checksums, which agree. -/
  | accepted (len : Byte) (payload : List Byte) (expected actual : Word)
  deriving DecidableEq, Repr

/-- S8 and S9 of R140: the received checksum characters against hex8 of the recomputed CRC, byte for byte (D9). -/
def judgeChecksum (s : List Byte) (len : Byte) : FrameOutcome :=
  let payload := unhex (payloadChars s len.toNat)
  let expected := crc32 payload
  let actual := hexNumber (crcChars s len.toNat)
  if crcChars s len.toNat ≠ hex8 expected then .checksumMismatch expected actual
  else .accepted len payload expected actual

/-- S4 to S7 of R140, for a decoded LEN. -/
def judgeBody (s : List Byte) (len : Byte) : FrameOutcome :=
  if s.length < Config.frameOverheadChars + 2 * len.toNat then .framingError .truncated
  else if Config.frameOverheadChars + 2 * len.toNat < s.length then .framingError .overlong
  else if ¬ (payloadChars s len.toNat).all isHex then .framingError .payloadNotHex
  else if ¬ (crcChars s len.toNat).all isHex then .framingError .crcFieldNotHex
  else judgeChecksum s len

/-- S1 to S9 of R140 on the candidate `s`: the checks in order, the first that fails ending it (R194). -/
def judgeFrame (s : List Byte) : FrameOutcome :=
  if s.length < 4 ∨ s.take 4 ≠ headerMarker then .framingError .header
  else if s.drop (s.length - 4) ≠ footerMarker then .framingError .footer
  else if s.length < 6 ∨ ¬ isHex (charAt s 4) ∨ ¬ isHex (charAt s 5) then .framingError .lenNotHex
  else judgeBody s (hexPair (charAt s 4) (charAt s 5))

end Sys2Proof.Machine
end

