-- ==== Sys2Proof/Machine/Operands.lean ====
section
/-!
DEFINITION. Where a command finds its operands (spec/30_encoding.md R81, R92), how DECODE packs its fields
(R93, spec/10_state.md R30), and the register that is a view of another (R34).
-/

namespace Sys2Proof.Machine

/-- OP = ENC_IN[23:16] (R92). -/
def encOp (s : State) : Byte := s.encIn.extractLsb' 16 8

/-- REG = ENC_IN[15:8] (R92). -/
def encReg (s : State) : Byte := s.encIn.extractLsb' 8 8

/-- VAL = ENC_IN[7:0] (R92). -/
def encVal (s : State) : Byte := s.encIn.extractLsb' 0 8

/-- The three raw payload bytes `[OP, REG, VAL]` of ENCODE (R130). -/
def encPayload (s : State) : List Byte := [encOp s, encReg s, encVal s]

/-- The characters RXBUF[0..RX_COUNT) that DECODE judges (R28, R140), for a count the buffer can hold. -/
def receivedChars (s : State) : List Byte := s.rxbuf.toList.take s.rxCount.toNat

/-- CRC_OUT = CRC_ACC xor 0xFFFFFFFF (R34). -/
def crcOut (s : State) : Word := s.crcAcc ^^^ 0xFFFFFFFF

/-- DEC_FIELDS = `{PBUF[0], PBUF[1], PBUF[2]}` (R30, R93). -/
def packFields (pbuf : Vector Byte 255) : BitVec 24 := pbuf[0] ++ pbuf[1] ++ pbuf[2]

end Sys2Proof.Machine
end

