-- ==== Sys2Proof/Machine/Ops.lean ====
section
/-!
DEFINITION. The named operations over the registers and buffers: reading and storing a location, clearing and
writing outputs, the bus error, the reset input, and taking the host's next event.
-/

namespace Sys2Proof.Machine

/-- The word a location reads as: its meaningful bits zero-extended, every reserved bit 0 (R174, R40). CMD reads
0 (R23). -/
def readLocation (l : Location) (s : State) : Word :=
  match l with
  | .cmd => 0
  | .status => statusWord s
  | .encIn => s.encIn.setWidth 32
  | .encCrc => s.encCrc
  | .txCount => s.txCount.setWidth 32
  | .rxCount => s.rxCount.setWidth 32
  | .decLen => s.decLen.setWidth 32
  | .decFields => s.decFields.setWidth 32
  | .crcExp => s.crcExp
  | .crcAct => s.crcAct
  | .crcAcc => s.crcAcc
  | .crcOut => crcOut s
  | .crcDin => s.crcDin.setWidth 32
  | .crcCmp => s.crcCmp
  | .txbuf i => s.txbuf[i].setWidth 32
  | .rxbuf i => s.rxbuf[i].setWidth 32
  | .pbuf i => s.pbuf[i].setWidth 32

/-- A host write stores the meaningful bits of `v` and ignores the others (R40, R173). -/
def storeInput (input : HostInput) (v : Word) (s : State) : State :=
  match input with
  | .encIn => { s with encIn := v.extractLsb' 0 24 }
  | .rxCount => { s with rxCount := v.extractLsb' 0 16 }
  | .crcDin => { s with crcDin := v.extractLsb' 0 8 }
  | .crcCmp => { s with crcCmp := v }
  | .rxbuf i => { s with rxbuf := s.rxbuf.set i (v.extractLsb' 0 8) }

/-- HostAccessFault(addr), the one exception of the block: the transaction changes no register or buffer, STATUS
included, and the fault is recorded with its direction (R192). There is no handler, so there is nothing to save, no
place to go and no return operation (R195, R196): the host's next transaction runs as ever. -/
def raiseHostAccessFault (dir : Direction) (addr : HAddr) (s : State) : State :=
  { s with hostFaults := s.hostFaults ++ [{ dir := dir, addr := addr }] }

/-- What the host receives from a HOST_READ: a word, or no data (R84, R192). -/
def returnData (d : Option Word) (s : State) : State := { s with readData := d }

/-- A buffer filled with `bytes` from index 0, its other elements 0. -/
def fillBuffer (n : Nat) (bytes : List Byte) : Vector Byte n :=
  ⟨((bytes ++ List.replicate n 0).take n).toArray, by simp⟩

/-- The encoder's outputs: TXBUF, TX_COUNT and ENC_CRC (R130). -/
def writeEncodeOutputs (frame : List Byte) (crc : Word) (s : State) : State :=
  { s with txbuf := fillBuffer 24 frame, txCount := BitVec.ofNat 8 Config.encFrameChars, encCrc := crc }

/-- The encoder's outputs back to 0 (R171). -/
def clearEncodeOutputs (s : State) : State :=
  { s with txbuf := Vector.replicate 24 0, txCount := 0, encCrc := 0 }

/-- What every DECODE does first: DEC_VALID, DEC_LEN, DEC_FIELDS, CRC_EXP, CRC_ACT and PBUF to 0 (R140, D15). -/
def clearDecodeOutputs (s : State) : State :=
  { s with
    statusDecValid := false, decLen := 0, decFields := 0, crcExp := 0, crcAct := 0,
    pbuf := Vector.replicate 255 0 }

/-- The two sides of a checksum comparison: CRC_EXP and CRC_ACT (R31, R32). -/
def writeChecksums (expected actual : Word) (s : State) : State :=
  { s with crcExp := expected, crcAct := actual }

/-- The fields of an accepted frame: PBUF, DEC_LEN, DEC_FIELDS and DEC_VALID (S9 of R140). -/
def writeDecodedFields (len : Byte) (payload : List Byte) (s : State) : State :=
  { s with
    pbuf := fillBuffer 255 payload, decLen := len, decFields := packFields (fillBuffer 255 payload),
    statusDecValid := true }

/-- The CRC engine's running register (R33). -/
def setCrcAcc (c : Word) (s : State) : State := { s with crcAcc := c }

/-- The reset input: every register and buffer to the reset column of R22, RXBUF to fresh arbitrary bytes (R210,
R38, assumption 1). What the host recorded or received is the host's and stays (R192), and so do its coming events. -/
def resetBlock (s : State) : State :=
  { State.reset with
    rxbuf := Vector.ofFn fun i => Config.rxbufDraw (s.resetCount + 1) i.val
    hostFaults := s.hostFaults
    readData := s.readData
    hostQueue := s.hostQueue
    resetCount := s.resetCount + 1 }

/-- The host's next event, and the state without it; none when the host presents nothing (R11). -/
def takeEvent (s : State) : Option (HostEvent × State) :=
  match s.hostQueue with
  | [] => none
  | e :: rest => some (e, { s with hostQueue := rest })

/-- The word `w` presented as the host's next event, before those already waiting. -/
def presentFirst (w : RawWord) (s : State) : State :=
  { s with hostQueue := .present w :: s.hostQueue }

end Sys2Proof.Machine
end

