-- ==== Sys2Proof/Machine/Control.lean ====
section
/-!
DEFINITION. The control commands NOP and CLEAR and the outcome of an illegal command word (spec/43_control.md
R170 to R172).
-/

namespace Sys2Proof.Machine

/-- NOP (R170): no effect, STATUS included. -/
def execNop (s : State) : Host.Outcome State Fault Refusal := .next s

/-- CLEAR (R171): the outputs and the CRC engine to their reset values; the host-written inputs stay. -/
def execClear (s : State) : Host.Outcome State Fault Refusal :=
  .next (setOk (setCrcAcc 0xFFFFFFFF (clearDecodeOutputs (clearEncodeOutputs s))))

/-- An illegal command word (R172): RESULT = ILLEGAL_COMMAND and FCAUSE = 0, nothing else. It is an outcome of the
block, not a stop. -/
def runIllegalCommand (s : State) : Host.Outcome State Fault Refusal :=
  .next (setOutcome .illegalCommand .none s)

end Sys2Proof.Machine
end

