-- ==== Sys2Proof/Machine/CrcEngine.lean ====
section
/-!
DEFINITION. The CRC engine's commands (spec/40_crc.md R115 to R117).
-/

namespace Sys2Proof.Machine

/-- CRC_INIT (R115). -/
def execCrcInit (s : State) : Host.Outcome State Fault Refusal :=
  .next (setOk (setCrcAcc 0xFFFFFFFF s))

/-- CRC_BYTE (R116): CRC_DIN is not consumed. -/
def execCrcByte (s : State) : Host.Outcome State Fault Refusal :=
  .next (setOk (setCrcAcc (crcStep s.crcAcc s.crcDin) s))

/-- CRC_CHECK (R117): the comparison is numeric over all 32 bits, and CRC_ACC is not changed. -/
def execCrcCheck (s : State) : Host.Outcome State Fault Refusal :=
  let t := writeChecksums (crcOut s) s.crcCmp s
  if crcOut s = s.crcCmp then .next (setOk t) else .next (setOutcome .checksumMismatch .none t)

end Sys2Proof.Machine
end

