-- ==== Sys2Proof/Machine/FrameCommands.lean ====
section
/-!
DEFINITION. The frame commands ENCODE (spec/41_frame_encode.md R130) and DECODE (spec/42_frame_decode.md R140).
-/

namespace Sys2Proof.Machine

/-- ENCODE (R130): LEN is always "03", and no OP or REG byte is refused (D13). -/
def execEncode (s : State) : Host.Outcome State Fault Refusal :=
  .next (setOk (writeEncodeOutputs (frameText (encPayload s)) (crc32 (encPayload s)) s))

/-- How DECODE records what it finds of the candidate frame (R140, S1 to S9), the outputs being cleared already. -/
def recordFrameOutcome (o : FrameOutcome) (s : State) : State :=
  match o with
  | .framingError cause => setOutcome .framingError cause s
  | .checksumMismatch expected actual =>
    setOutcome .checksumMismatch .none (writeChecksums expected actual s)
  | .accepted len payload expected actual =>
    setOk (writeDecodedFields len payload (writeChecksums expected actual s))

/-- DECODE (R140): clear the decode outputs, refuse a count RXBUF cannot hold (S0), and judge RXBUF[0..N). -/
def execDecode (s : State) : Host.Outcome State Fault Refusal :=
  if Config.rxCap < s.rxCount.toNat then .next (setOutcome .badCount .none (clearDecodeOutputs s))
  else .next (recordFrameOutcome (judgeFrame (receivedChars s)) (clearDecodeOutputs s))

end Sys2Proof.Machine
end

