-- ==== Sys2Proof/Machine/HostAccess.lean ====
section
/-!
DEFINITION. The host bus operations HOST_WRITE and HOST_READ, and command dispatch (spec/43_control.md R173 to R175).
-/

namespace Sys2Proof.Machine

/-- Command dispatch (R175): the command that the word written to CMD selects, or the illegal-command outcome. -/
def runCommand (v : Word) (s : State) : Host.Outcome State Fault Refusal :=
  match decodeCommand v with
  | .ok .nop => execNop s
  | .ok .encode => execEncode s
  | .ok .decode => execDecode s
  | .ok .crcInit => execCrcInit s
  | .ok .crcByte => execCrcByte s
  | .ok .crcCheck => execCrcCheck s
  | .ok .clear => execClear s
  | .error _ => runIllegalCommand s

/-- HOST_WRITE (R173), its tests in the order listed. -/
def execHostWrite (addr : HAddr) (v : Word) (s : State) : Host.Outcome State Fault Refusal :=
  if misaligned addr then .next (raiseHostAccessFault .write addr s)
  else
    match locate addr with
    | none => .next (raiseHostAccessFault .write addr s)
    | some l =>
      match l.writeEffect with
      | .readOnly => .next (raiseHostAccessFault .write addr s)
      | .runsCommand => runCommand v s
      | .stores input => .next (storeInput input v s)

/-- HOST_READ (R174): the word goes to the host, and a faulting read returns no data (R192). -/
def execHostRead (addr : HAddr) (s : State) : Host.Outcome State Fault Refusal :=
  if misaligned addr then .next (returnData none (raiseHostAccessFault .read addr s))
  else
    match locate addr with
    | none => .next (returnData none (raiseHostAccessFault .read addr s))
    | some l => .next (returnData (some (readLocation l s)) s)

end Sys2Proof.Machine
end

