-- ==== Sys2Proof/Machine/Dispatch.lean ====
section
/-!
DEFINITION. The meaning of each instruction of the opcode table, one arm a constructor.
-/

namespace Sys2Proof.Machine

-- Every row of spec/opcode_table.json has its meaning; no arm is rejected by name.
def exec (i : Instr) (s : State) : Host.Outcome State Fault Refusal :=
  match i with
  | .nop => Sys2Proof.Machine.execNop s
  | .encode => Sys2Proof.Machine.execEncode s
  | .decode => Sys2Proof.Machine.execDecode s
  | .crcInit => Sys2Proof.Machine.execCrcInit s
  | .crcByte => Sys2Proof.Machine.execCrcByte s
  | .crcCheck => Sys2Proof.Machine.execCrcCheck s
  | .clear => Sys2Proof.Machine.execClear s
  | .hostRead addr => Sys2Proof.Machine.execHostRead addr s
  | .hostWrite addr data => Sys2Proof.Machine.execHostWrite addr data s

end Sys2Proof.Machine
end

