-- ==== Sys2Proof/Machine/Step.lean ====
section
/-!
DEFINITION. One step of the machine: the host's next event takes effect, whole (spec/00_scope.md R11,
spec/20_memory.md R67, R70).
-/

namespace Sys2Proof.Machine

/-- A presented word runs the instruction it encodes; a command word that encodes none has the outcome of R172. -/
def runWord (w : RawWord) (s : State) : Host.Outcome State Fault Refusal :=
  match decode w with
  | .ok i => exec i s
  | .error _ => runIllegalCommand s

/-- One step. The block never starts a step on its own (R11): with no event waiting nothing changes. -/
def step (s : State) : Host.Outcome State Fault Refusal :=
  match takeEvent s with
  | none => .next s
  | some (.reset, t) => .next (resetBlock t)
  | some (.present w, t) => runWord w t

/-- The state with the instruction whose bits are `w` presented as the host's next event, and nothing else changed. -/
def State.withFetchWord (s : State) (nbits w : Nat) : State := presentFirst (rawOfTableWord nbits w) s

end Sys2Proof.Machine
end

