-- ==== Sys2Proof/Machine/HostProgram.lean ====
section
/-!
DEFINITION. The host program syntax: its lines, its pseudo-instructions and their expansions (spec/30_encoding.md
R95, R96).
-/

namespace Sys2Proof.Machine

/-- A line of a host program: one bus transaction (R95). -/
inductive HostLine where
  /-- `rd LOC`. -/
  | rd (addr : HAddr)
  /-- `wr LOC, v`. -/
  | wr (addr : HAddr) (v : Word)
  deriving DecidableEq, Repr

/-- The transaction of a line. -/
def HostLine.instr : HostLine → Instr
  | .rd addr => .hostRead addr
  | .wr addr v => .hostWrite addr v

/-- The host's event for a line: its BUS record (R95). -/
def HostLine.event (l : HostLine) : HostEvent := .present (encode l.instr)

/-- The pseudo-instructions of R96. A text is the sequence of its characters' bytes. -/
inductive Pseudo where
  | nop | encode | decode | crcInit | crcByte | crcCheck | clear
  | enc (op reg val : Byte)
  | crcFeed (b : Byte)
  | loadRx (text : List Byte)
  | dec (text : List Byte)
  deriving DecidableEq, Repr

/-- The ASCII code of each character of a text (R86, R96). DESIGN CHOICE (assumption 16): a character above 0x7F has no ASCII
code and R96 gives no byte for it; the model takes its code point modulo 256. -/
def asciiBytes (text : String) : List Byte := text.toList.map fun c => BitVec.ofNat 8 c.toNat

/-- The address of RXBUF[i] (R22), for i < 528. DESIGN CHOICE (assumption 15): past that no element exists and R96 gives no
expansion of a longer text; the model goes on to 0x1000 + 4*i, wrapped to 16 bits. -/
def rxbufAddr (i : Nat) : HAddr := BitVec.ofNat 16 (0x1000 + 4 * i)

/-- `wr RXBUF[i], b` for each byte of a text, from index `i` on in order (R96). -/
def rxWrites (i : Nat) : List Byte → List HostLine
  | [] => []
  | b :: rest => .wr (rxbufAddr i) (b.setWidth 32) :: rxWrites (i + 1) rest

/-- `load_rx`: the characters in order, then their number into RX_COUNT (R96). -/
def loadRxLines (text : List Byte) : List HostLine :=
  rxWrites 0 text ++ [.wr Location.rxCount.offset (BitVec.ofNat 32 text.length)]

/-- `wr CMD, v`. -/
def commandLine (v : Word) : HostLine := .wr Location.cmd.offset v

/-- The exact expansion of each pseudo-instruction (R96). -/
def Pseudo.expand : Pseudo → List HostLine
  | .nop => [commandLine 0x00]
  | .encode => [commandLine 0x01]
  | .decode => [commandLine 0x02]
  | .crcInit => [commandLine 0x03]
  | .crcByte => [commandLine 0x04]
  | .crcCheck => [commandLine 0x05]
  | .clear => [commandLine 0x06]
  | .enc op reg val => [.wr Location.encIn.offset ((0 : Byte) ++ op ++ reg ++ val), commandLine 0x01]
  | .crcFeed b => [.wr Location.crcDin.offset (b.setWidth 32), commandLine 0x04]
  | .loadRx text => loadRxLines text
  | .dec text => loadRxLines text ++ [commandLine 0x02]

/-- The host's events for a pseudo-instruction. -/
def Pseudo.events (p : Pseudo) : List HostEvent := p.expand.map HostLine.event

end Sys2Proof.Machine
end

