-- ==== Sys2Proof/Safety.lean ====
section
/-!
DEFINITION. The terms that statements about the machine use: good states, the invariant of the registers, the frames of the
spec described without the decoder, the CRC in its catalogue form, and the bytes a run feeds the CRC engine.
-/

namespace Sys2Proof.Machine

/-! ### States -/

/-- A good state of a run: no HostAccessFault is recorded (R192: 'a state that has one is not a good final state'). -/
def State.good (s : State) : Prop := s.hostFaults = []

/-- What holds of the registers in every state the block can be in (R24, R27, R29, R30, R37, R39, R190, R191). -/
structure State.Consistent (s : State) : Prop where
  /-- RESULT is never one of the reserved codes 5 to 7. -/
  result_legal : s.statusResult.toNat ≤ 4
  /-- FCAUSE is non-zero exactly when RESULT = FRAMING_ERROR. -/
  cause_iff_framing : s.statusFcause ≠ 0 ↔ s.statusResult = 1
  /-- TX_COUNT is 0 with nothing in TXBUF and ENC_CRC, or 24 with a frame of three payload bytes and its CRC. -/
  encode_outputs :
    (s.txCount = 0 ∧ s.encCrc = 0 ∧ s.txbuf = Vector.replicate 24 0) ∨
      (s.txCount = 24 ∧ ∃ op reg val : Byte,
        s.txbuf.toList = frameText [op, reg, val] ∧ s.encCrc = crc32 [op, reg, val])
  /-- With DEC_VALID = 0 no decoded field stands in the output registers. -/
  decode_cleared :
    s.statusDecValid = false → s.decLen = 0 ∧ s.decFields = 0 ∧ s.pbuf = Vector.replicate 255 0
  /-- PBUF[j] = 0 for j >= DEC_LEN. -/
  payload_tail : ∀ j : Fin 255, s.decLen.toNat ≤ j.val → s.pbuf[j] = 0
  /-- DEC_FIELDS is PBUF[0], PBUF[1], PBUF[2] packed. -/
  fields_packed : s.decFields = s.pbuf[0] ++ s.pbuf[1] ++ s.pbuf[2]

/-- Two states with the same registers and buffers, their STATUS apart. -/
def State.agreeButStatus (s t : State) : Prop :=
  t = { s with
    statusResult := t.statusResult, statusFcause := t.statusFcause, statusDecValid := t.statusDecValid }

/-- `s` after a DECODE that ends with this RESULT and FCAUSE and leaves every decode output cleared (R140). -/
def State.decodeFailed (s : State) (result fcause : BitVec 3) : State :=
  { s with
    statusResult := result, statusFcause := fcause, statusDecValid := false, decLen := 0, decFields := 0,
    crcExp := 0, crcAct := 0, pbuf := Vector.replicate 255 0 }

/-- DECODE is given the candidate `c`: RX_COUNT is its length and RXBUF begins with it (R28, R140). -/
def State.candidate (s : State) (c : List Byte) : Prop :=
  s.rxCount.toNat = c.length ∧ c <+: s.rxbuf.toList

/-! ### Frames, told from their layout -/

/-- The uppercase form of a lowercase hex letter; every other byte is its own. -/
def upperHex (b : Byte) : Byte := if 0x61 ≤ b ∧ b ≤ 0x66 then b - 0x20 else b

/-- `s` is a frame with payload `p` as DECODE is to accept it: the layout of R85, where the letters of LEN and
PAYLOAD may have either case (R87) and those of the CRC field may not (D9). -/
def readsAsFrame (s p : List Byte) : Prop :=
  p.length ≤ 255 ∧ ∃ lenText payText : List Byte,
    s = headerMarker ++ lenText ++ payText ++ hex8 (crc32 p) ++ footerMarker ∧
      lenText.map upperHex = hex2 (BitVec.ofNat 8 p.length) ∧ payText.map upperHex = payloadText p

/-- The three fields of a payload, a missing one 0 (R30). -/
def payloadFields (p : List Byte) : BitVec 24 := p.getD 0 0 ++ p.getD 1 0 ++ p.getD 2 0

/-! ### The CRC in catalogue form (R112) -/

/-- One turn of the unreflected algorithm with poly 0x04C11DB7. -/
def msbShift (t : Word) : Word := if t.msb then (t <<< 1) ^^^ 0x04C11DB7 else t <<< 1

/-- `n` turns of the unreflected algorithm. -/
def msbShifts : Nat → Word → Word
  | 0, t => t
  | n + 1, t => msbShifts n (msbShift t)

/-- A byte entering the unreflected register at its top. -/
def msbStep (c : Word) (b : Byte) : Word := msbShifts 8 (c ^^^ (b ++ (0 : BitVec 24)))

/-- width 32, poly 0x04C11DB7, init 0xFFFFFFFF, refin true, refout true, xorout 0xFFFFFFFF (R112). -/
def catalogueCrc32 (p : List Byte) : Word :=
  ((p.map BitVec.reverse).foldl msbStep 0xFFFFFFFF).reverse ^^^ 0xFFFFFFFF

/-! ### What a run feeds the CRC engine -/

/-- The event writes the word `v` to CMD. -/
def writesCommand (v : Word) : HostEvent → Bool
  | .present (.cmdw u) => u == v
  | .present (.bus t) => t == busWord 1 0x0000 v
  | .reset => false

/-- The event is reset, CRC_INIT or CLEAR: those that start a new CRC (R33). -/
def restartsCrc (e : HostEvent) : Bool := e == .reset || writesCommand 0x03 e || writesCommand 0x06 e

/-- The next event of the host is a CRC_BYTE. -/
def feedsNext (s : State) : Bool :=
  match s.hostQueue with
  | e :: _ => writesCommand 0x04 e
  | [] => false

/-- CRC_DIN at each CRC_BYTE among the next `n` steps, in order. -/
def crcFed : Nat → State → List Byte
  | 0, _ => []
  | n + 1, s =>
    (if feedsNext s then [s.crcDin] else []) ++
      match step s with
      | .next t => crcFed n t
      | _ => []

/-! ### The host's accesses by address -/

/-- The meaningful bits of each location (R22). -/
def meaningfulBits : Location → Word
  | .status => 0x00000177
  | .encIn => 0x00FFFFFF
  | .txCount => 0x000000FF
  | .rxCount => 0x0000FFFF
  | .decLen => 0x000000FF
  | .decFields => 0x00FFFFFF
  | .crcDin => 0x000000FF
  | .txbuf _ => 0x000000FF
  | .rxbuf _ => 0x000000FF
  | .pbuf _ => 0x000000FF
  | .cmd => 0xFFFFFFFF
  | .encCrc => 0xFFFFFFFF
  | .crcExp => 0xFFFFFFFF
  | .crcAct => 0xFFFFFFFF
  | .crcAcc => 0xFFFFFFFF
  | .crcOut => 0xFFFFFFFF
  | .crcCmp => 0xFFFFFFFF

/-- The addresses of R61, by their numbers. -/
def mappedAddr (a : HAddr) : Prop :=
  a.toNat % 4 = 0 ∧
    (a.toNat ≤ 0x0034 ∨ (0x0100 ≤ a.toNat ∧ a.toNat ≤ 0x015C) ∨ (0x1000 ≤ a.toNat ∧ a.toNat ≤ 0x183C) ∨
      (0x2000 ≤ a.toNat ∧ a.toNat ≤ 0x23F8))

/-- The addresses a host write may go to: CMD and the RW locations of R22, by their numbers. -/
def writableAddr (a : HAddr) : Prop :=
  a = 0x0000 ∨ a = 0x0008 ∨ a = 0x0014 ∨ a = 0x0030 ∨ a = 0x0034 ∨
    (a.toNat % 4 = 0 ∧ 0x1000 ≤ a.toNat ∧ a.toNat ≤ 0x183C)

end Sys2Proof.Machine
end

