-- ==== Sys2Proof/Certificates/Slice0/Obligations.lean ====
section
/-!
DEFINITION. The statements for the provers, from the numbered rules of spec/. In all of them `s` is any state, also one no run reaches,
and an equation with `.next { s with … }` says that everything not written is unchanged.
-/

open Sys2Proof Sys2Proof.Machine

/-! ### Encoding -/

/-- R81, R82, R84: decoding the encoding of any instruction, with any operands, gives that instruction. Every `Instr`
is well formed, so there is no hypothesis. -/
def Obligations.EncodeThenDecode : Prop := ∀ i : Instr, decode (encode i) = .ok i

/-- R81 to R84: a word that decodes is the encoding of what it decodes to, the ignored DATA of a HOST_READ apart
(the encoder writes it as 0, the model's choice, log entry 12). -/
def Obligations.DecodeThenEncode : Prop :=
  (∀ v i, decode (.cmdw v) = .ok i → encode i = .cmdw v) ∧
  (∀ t : BusWord, ∃ i, decode (.bus t) = .ok i ∧
    encode i = .bus (if t.getLsbD 48 then t else (t >>> 32) <<< 32))

/-- R82, R83: the seven command words, and no other word is a command. -/
def Obligations.CommandMap : Prop :=
  decode (.cmdw 0x00000000) = .ok .nop ∧ decode (.cmdw 0x00000001) = .ok .encode ∧
  decode (.cmdw 0x00000002) = .ok .decode ∧ decode (.cmdw 0x00000003) = .ok .crcInit ∧
  decode (.cmdw 0x00000004) = .ok .crcByte ∧ decode (.cmdw 0x00000005) = .ok .crcCheck ∧
  decode (.cmdw 0x00000006) = .ok .clear ∧
  ∀ v : Word, 6 < v.toNat → ∃ e, decode (.cmdw v) = .error e

/-- R82, R84: words written out from the spec's encodings decode to their instructions. -/
def Obligations.WrittenOutWordsDecode : Prop :=
  decodeTableWord 32 0b00000000000000000000000000000010 = some .decode ∧
  decodeTableWord 32 0b00000000000000000000000000000101 = some .crcCheck ∧
  decodeTableWord 32 0x00000007 = none ∧ decodeTableWord 32 0x00000101 = none ∧
  decodeTableWord 56 0x1000800000C03 = some (.hostWrite 0x0008 0x00000C03) ∧
  decodeTableWord 56 0x0002C00000000 = some (.hostRead 0x002C)

/-! ### Steps -/

/-- R67, R70: the host's next word, where it decodes, runs as the instruction it encodes, and the event is taken from
the host's queue (the queue is the model's own, log entry 2). -/
def Obligations.StepRunsDecodedWord : Prop :=
  ∀ (s : State) (w : RawWord) (rest : List HostEvent) (i : Instr), i.wellFormed = true → decode w = .ok i →
    step { s with hostQueue := .present w :: rest } = exec i { s with hostQueue := rest }

/-- A row of the opcode table presented first runs first (the word's form is log entry 3). -/
def Obligations.FetchWordRunsFirst : Prop :=
  ∀ (s : State) (nbits w : Nat) (i : Instr), decodeTableWord nbits w = some i →
    step (s.withFetchWord nbits w) = exec i s

/-- R172, R83: an illegal command word ends in RESULT = ILLEGAL_COMMAND and FCAUSE = 0 and changes nothing else; the write to
CMD completes normally. -/
def Obligations.IllegalCommandOutcome : Prop :=
  ∀ (s : State) (v : Word), v.extractLsb' 8 24 ≠ 0 ∨ 0x07 ≤ v.extractLsb' 0 8 →
    exec (.hostWrite 0x0000 v) s = .next { s with statusResult := 3, statusFcause := 0 }

/-- R80, R175: a command word presented alone does what the host's write of it to CMD does (the model's two forms of
one event, log entry 3). -/
def Obligations.CommandWordIsCmdWrite : Prop :=
  ∀ (s : State) (v : Word) (rest : List HostEvent),
    step { s with hostQueue := .present (.cmdw v) :: rest } =
      step { s with hostQueue := .present (.bus (busWord 1 0x0000 v)) :: rest }

/-- Section 2 of 93_implementation_defined.md: every command and every transaction completes; no step of any state is a fault or a
refusal. -/
def Obligations.EveryStepCompletes : Prop := ∀ s : State, ∃ t, step s = .next t

/-- R11: with no event of the host nothing changes (that the model then makes a step at all is its choice, log entry 2). -/
def Obligations.IdleStepChangesNothing : Prop :=
  ∀ s : State, step { s with hostQueue := [] } = .next { s with hostQueue := [] }

/-- R210: the reset input puts every register and buffer, RXBUF apart, to its reset value, in any state. What the host recorded and
received, and its coming events, stay (the model's choice, log entry 9). -/
def Obligations.ResetInputRestoresRegisters : Prop :=
  ∀ (s : State) (rest : List HostEvent), ∃ t, step { s with hostQueue := .reset :: rest } = .next t ∧
    t = { State.reset with
      rxbuf := t.rxbuf, resetCount := t.resetCount
      hostFaults := s.hostFaults, readData := s.readData, hostQueue := rest }

/-- R210, R22: the values after reset, RXBUF (unspecified) left unsaid. -/
def Obligations.ResetRegisterValues : Prop :=
  let r := State.reset
  r.statusResult = 0 ∧ r.statusFcause = 0 ∧ r.statusDecValid = false ∧ r.encIn = 0 ∧ r.encCrc = 0 ∧ r.txCount = 0 ∧
  r.rxCount = 0 ∧ r.decLen = 0 ∧ r.decFields = 0 ∧ r.crcExp = 0 ∧ r.crcAct = 0 ∧ r.crcAcc = 0xFFFFFFFF ∧
  r.crcDin = 0 ∧ r.crcCmp = 0 ∧ (∀ i : Fin 24, r.txbuf[i] = 0) ∧ (∀ j : Fin 255, r.pbuf[j] = 0) ∧
  exec (.hostRead 0x002C) r = .next { r with readData := some 0 }

/-! ### The machine's invariant and its whole-machine rules -/

/-- R24, R27, R29, R30, R39, R190, R191: every step of a consistent state leaves a consistent state, the reset input
included. -/
def Obligations.StepKeepsConsistent : Prop :=
  ∀ s : State, s.Consistent → ∃ t, step s = .next t ∧ t.Consistent

/-- The state after reset is consistent. -/
def Obligations.ResetIsConsistent : Prop := State.reset.Consistent

/-- R25, R28, R35, R36, R38, R68: only a host write to it changes a host-written input, and no command does. -/
def Obligations.InputsChangeOnlyByHostWrite : Prop :=
  ∀ (i : Instr) (s : State), ∃ t, exec i s = .next t ∧
    ((∀ v, i ≠ .hostWrite 0x0008 v) → t.encIn = s.encIn) ∧
    ((∀ v, i ≠ .hostWrite 0x0014 v) → t.rxCount = s.rxCount) ∧
    ((∀ v, i ≠ .hostWrite 0x0030 v) → t.crcDin = s.crcDin) ∧
    ((∀ v, i ≠ .hostWrite 0x0034 v) → t.crcCmp = s.crcCmp) ∧
    ∀ j : Fin 528, (∀ v, i ≠ .hostWrite (rxbufAddr j) v) → t.rxbuf[j] = s.rxbuf[j]

/-- R41: what each instruction does to DEC_VALID. -/
def Obligations.DecValidRule : Prop :=
  ∀ (i : Instr) (s : State), ∃ t, exec i s = .next t ∧
    (i = .decode → (t.statusDecValid = true ↔ t.statusResult = 0)) ∧ (i = .clear → t.statusDecValid = false) ∧
    (i ≠ .decode → i ≠ .clear → i ≠ .hostWrite 0x0000 2 → i ≠ .hostWrite 0x0000 6 →
      t.statusDecValid = s.statusDecValid)

/-- R41: no command's outcome depends on STATUS, and two states that differ in STATUS alone still do so after any
instruction but a HOST_READ; the commands other than NOP leave the same RESULT and FCAUSE in both. -/
def Obligations.StatusIsNeverRead : Prop :=
  ∀ (s u : State) (i : Instr), s.agreeButStatus u → (∀ a, i ≠ .hostRead a) →
    ∃ t v, exec i s = .next t ∧ exec i u = .next v ∧ t.agreeButStatus v ∧
      ((i = .encode ∨ i = .decode ∨ i = .crcInit ∨ i = .crcByte ∨ i = .crcCheck ∨ i = .clear) →
        t.statusResult = v.statusResult ∧ t.statusFcause = v.statusFcause)

/-- R192: recorded faults are never cleared, and a step adds at most one. -/
def Obligations.HostFaultsOnlyGrow : Prop :=
  ∀ s : State, ∃ t, step s = .next t ∧ s.hostFaults <+: t.hostFaults ∧
    t.hostFaults.length ≤ s.hostFaults.length + 1

/-- R192, R195: an instruction that records a fault changes no register and no buffer of the block, STATUS included. -/
def Obligations.RejectedAccessChangesNoRegister : Prop :=
  ∀ (i : Instr) (s : State), ∃ t, exec i s = .next t ∧
    (t.hostFaults ≠ s.hostFaults →
      t = { s with hostFaults := t.hostFaults, readData := t.readData } ∧
        ∃ f, t.hostFaults = s.hostFaults ++ [f] ∧
          (i = .hostRead f.addr ∧ f.dir = .read ∨ ∃ v, i = .hostWrite f.addr v ∧ f.dir = .write))

/-- R11, R42: an instruction leaves the host's coming events as they are, and what it does to the rest of the state does not depend on
them (the queue and the reset count are the model's own, log entries 1 and 2). -/
def Obligations.ExecIgnoresComingEvents : Prop :=
  ∀ (i : Instr) (s : State) (q : List HostEvent) (k : Nat), ∃ t, exec i s = .next t ∧
    t.hostQueue = s.hostQueue ∧ t.resetCount = s.resetCount ∧
    exec i { s with hostQueue := q, resetCount := k } = .next { t with hostQueue := q, resetCount := k }

/-! ### Control commands and dispatch -/

/-- R170: NOP has no effect. -/
def Obligations.NopHasNoEffect : Prop :=
  decode (.cmdw 0x00000000) = .ok .nop ∧ ∀ s : State, exec .nop s = .next s

/-- R171: CLEAR returns the outputs and the CRC engine to their reset values and leaves the inputs. -/
def Obligations.ClearRestoresOutputs : Prop :=
  decode (.cmdw 0x00000006) = .ok .clear ∧
  ∀ s : State, exec .clear s = .next
    { s with
      statusResult := 0, statusFcause := 0, statusDecValid := false, encCrc := 0, txCount := 0
      txbuf := Vector.replicate 24 0, decLen := 0, decFields := 0, pbuf := Vector.replicate 255 0
      crcExp := 0, crcAct := 0, crcAcc := 0xFFFFFFFF }

/-- R175: a write to CMD runs exactly the command the written word selects. -/
def Obligations.CmdWriteDispatch : Prop :=
  ∀ s : State,
    exec (.hostWrite 0x0000 0x00) s = exec .nop s ∧ exec (.hostWrite 0x0000 0x01) s = exec .encode s ∧
    exec (.hostWrite 0x0000 0x02) s = exec .decode s ∧ exec (.hostWrite 0x0000 0x03) s = exec .crcInit s ∧
    exec (.hostWrite 0x0000 0x04) s = exec .crcByte s ∧ exec (.hostWrite 0x0000 0x05) s = exec .crcCheck s ∧
    exec (.hostWrite 0x0000 0x06) s = exec .clear s ∧
    ∀ v : Word, 6 < v.toNat → exec (.hostWrite 0x0000 v) s = .next { s with statusResult := 3, statusFcause := 0 }

/-! ### Host accesses -/

/-- R22, R61: the mapped addresses are exactly those of the map, and each location has its own. -/
def Obligations.AddressMapIsExact : Prop :=
  (∀ a : HAddr, (∃ l, locate a = some l) ↔ mappedAddr a) ∧ ∀ (a : HAddr) (l : Location), locate a = some l ↔ l.offset = a

/-- R173: what a host write does, at every address. -/
def Obligations.HostWriteEffect : Prop :=
  ∀ (s : State) (v : Word),
    (∀ a : HAddr, ¬ writableAddr a →
      exec (.hostWrite a v) s = .next { s with hostFaults := s.hostFaults ++ [{ dir := .write, addr := a }] }) ∧
    (∀ i, decode (.cmdw v) = .ok i → exec (.hostWrite 0x0000 v) s = exec i s) ∧
    (∀ e, decode (.cmdw v) = .error e →
      exec (.hostWrite 0x0000 v) s = .next { s with statusResult := 3, statusFcause := 0 }) ∧
    exec (.hostWrite 0x0008 v) s = .next { s with encIn := v.extractLsb' 0 24 } ∧
    exec (.hostWrite 0x0014 v) s = .next { s with rxCount := v.extractLsb' 0 16 } ∧
    exec (.hostWrite 0x0030 v) s = .next { s with crcDin := v.extractLsb' 0 8 } ∧
    exec (.hostWrite 0x0034 v) s = .next { s with crcCmp := v } ∧
    ∀ i : Fin 528, exec (.hostWrite (BitVec.ofNat 16 (0x1000 + 4 * i.val)) v) s =
      .next { s with rxbuf := s.rxbuf.set i (v.extractLsb' 0 8) }

/-- R174: what a host read returns, at every address; it changes nothing of the block (`readData` is what the host receives, log
entry 4). -/
def Obligations.HostReadEffect : Prop :=
  ∀ s : State,
    (∀ a : HAddr, ¬ mappedAddr a → exec (.hostRead a) s = .next
      { s with hostFaults := s.hostFaults ++ [{ dir := .read, addr := a }], readData := none }) ∧
    exec (.hostRead 0x0000) s = .next { s with readData := some 0 } ∧
    exec (.hostRead 0x0004) s = .next { s with readData := some (BitVec.ofNat 32
      (256 * s.statusDecValid.toNat + 16 * s.statusFcause.toNat + s.statusResult.toNat)) } ∧
    exec (.hostRead 0x0008) s = .next { s with readData := some (s.encIn.setWidth 32) } ∧
    exec (.hostRead 0x000C) s = .next { s with readData := some s.encCrc } ∧
    exec (.hostRead 0x0010) s = .next { s with readData := some (s.txCount.setWidth 32) } ∧
    exec (.hostRead 0x0014) s = .next { s with readData := some (s.rxCount.setWidth 32) } ∧
    exec (.hostRead 0x0018) s = .next { s with readData := some (s.decLen.setWidth 32) } ∧
    exec (.hostRead 0x001C) s = .next { s with readData := some (s.decFields.setWidth 32) } ∧
    exec (.hostRead 0x0020) s = .next { s with readData := some s.crcExp } ∧
    exec (.hostRead 0x0024) s = .next { s with readData := some s.crcAct } ∧
    exec (.hostRead 0x0028) s = .next { s with readData := some s.crcAcc } ∧
    exec (.hostRead 0x002C) s = .next { s with readData := some (s.crcAcc ^^^ 0xFFFFFFFF) } ∧
    exec (.hostRead 0x0030) s = .next { s with readData := some (s.crcDin.setWidth 32) } ∧
    exec (.hostRead 0x0034) s = .next { s with readData := some s.crcCmp } ∧
    (∀ i : Fin 24, exec (.hostRead (BitVec.ofNat 16 (0x0100 + 4 * i.val))) s =
      .next { s with readData := some (s.txbuf[i].setWidth 32) }) ∧
    (∀ i : Fin 528, exec (.hostRead (BitVec.ofNat 16 (0x1000 + 4 * i.val))) s =
      .next { s with readData := some (s.rxbuf[i].setWidth 32) }) ∧
    ∀ i : Fin 255, exec (.hostRead (BitVec.ofNat 16 (0x2000 + 4 * i.val))) s =
      .next { s with readData := some (s.pbuf[i].setWidth 32) }

/-- R40, R66, R68: a host write to a RW location is read back with its reserved bits 0, every other location reads as before, and writing the
same word again changes nothing. -/
def Obligations.WriteThenRead : Prop :=
  ∀ (l : Location) (input : HostInput) (v : Word) (s : State), l.writeEffect = .stores input →
    ∃ t, exec (.hostWrite l.offset v) s = .next t ∧ exec (.hostWrite l.offset v) t = .next t ∧
      ∀ m : Location, exec (.hostRead m.offset) t = .next
        { t with readData := some (if m = l then v &&& meaningfulBits l else readLocation m s) }

/-- R40, R22: every bit outside a location's meaningful bits reads 0. -/
def Obligations.ReservedBitsReadZero : Prop :=
  ∀ (l : Location) (s : State), ∃ d, exec (.hostRead l.offset) s = .next { s with readData := some d } ∧
    d &&& ~~~ (meaningfulBits l) = 0

/-- R96, R95: the pseudo-instruction `load_rx` of any text that fits puts the text into RXBUF[0..n) and n into RX_COUNT, one line a
step, and changes nothing else. -/
def Obligations.LoadRxPlacesText : Prop :=
  ∀ (s : State) (text : List Byte) (rest : List HostEvent), text.length ≤ 528 →
    ∃ t : State, core.run (text.length + 1) { s with hostQueue := (Pseudo.loadRx text).events ++ rest } = .next t ∧
      t = { s with hostQueue := rest, rxCount := BitVec.ofNat 16 text.length, rxbuf := t.rxbuf } ∧
      t.candidate text ∧ ∀ j : Fin 528, text.length ≤ j.val → t.rxbuf[j] = s.rxbuf[j]

/-! ### Hex digits and the CRC function -/

/-- R87, R86: the hex digits are the characters 0 to 9, A to F and a to f, and no other byte is one. -/
def Obligations.HexDigitSet : Prop :=
  ∀ b : Byte, isHex b = true ↔ b ∈ asciiBytes "0123456789ABCDEFabcdef"

/-- R88, R89, R90: a 4-bit value is written as its uppercase digit, and the fields hex2 and hex8 read back as the numbers they were
written from. -/
def Obligations.HexFieldsReadBack : Prop :=
  (∀ n : BitVec 4, hexChar n = charAt (asciiBytes "0123456789ABCDEF") n.toNat ∧ hexVal (hexChar n) = n) ∧
  (∀ v : Byte, unhex (hex2 v) = [v]) ∧ (∀ p : List Byte, unhex (payloadText p) = p) ∧
  ∀ w : Word, hexNumber (hex8 w) = w ∧ (hex8 w).length = 8 ∧ (hex8 w).all isHex = true

/-- R112: the checksum of R110 and R111 is the catalogue's CRC with poly 0x04C11DB7, init and xorout 0xFFFFFFFF, refin and refout true. The
parameters are the spec's own, from general knowledge (D31, log entry 13). -/
def Obligations.CrcIsCatalogueCrc : Prop := ∀ p : List Byte, crc32 p = catalogueCrc32 p

/-- R114: a step of the CRC is linear over xor, and the CRC of nothing is 0. -/
def Obligations.CrcStepIsLinear : Prop :=
  (∀ (c c' : Word) (b b' : Byte), crcStep (c ^^^ c') (b ^^^ b') = crcStep c b ^^^ crcStep c' b') ∧ crc32 [] = 0

/-- Payloads that differ in one byte have different checksums: it follows from R110 and R111. The spec states no such rule; of
this kind it gives only that a burst of at most 4 bits is detected (R144, from general knowledge, G6), and two bytes may differ in 8. -/
def Obligations.CrcDetectsOneByte : Prop :=
  ∀ (p q : List Byte) (x y : Byte), x ≠ y → crc32 (p ++ x :: q) ≠ crc32 (p ++ y :: q)

/-! ### The CRC engine -/

/-- R115: CRC_INIT. -/
def Obligations.CrcInitEffect : Prop :=
  decode (.cmdw 0x00000003) = .ok .crcInit ∧
  ∀ s : State, exec .crcInit s = .next { s with crcAcc := 0xFFFFFFFF, statusResult := 0, statusFcause := 0 }

/-- R116: CRC_BYTE, the step of R110 given by its eight turns. -/
def Obligations.CrcByteEffect : Prop :=
  decode (.cmdw 0x00000004) = .ok .crcByte ∧
  ∀ (s : State) (t : Nat → Word), t 0 = s.crcAcc ^^^ s.crcDin.setWidth 32 →
    (∀ k, k < 8 → t (k + 1) = if (t k).getLsbD 0 then (t k >>> 1) ^^^ 0xEDB88320 else t k >>> 1) →
    exec .crcByte s = .next { s with crcAcc := t 8, statusResult := 0, statusFcause := 0 }

/-- R117: CRC_CHECK. -/
def Obligations.CrcCheckEffect : Prop :=
  decode (.cmdw 0x00000005) = .ok .crcCheck ∧
  ∀ s : State, exec .crcCheck s = .next
    { s with
      crcExp := s.crcAcc ^^^ 0xFFFFFFFF, crcAct := s.crcCmp
      statusResult := if s.crcAcc ^^^ 0xFFFFFFFF = s.crcCmp then 0 else 2, statusFcause := 0 }

/-- R119: after a CRC_INIT, a CLEAR or reset, and then any events without one of these, CRC_OUT is the CRC-32 of the bytes that the
CRC_BYTEs among them fed, in their order, whatever else stands between. The spec marks R119 as derived. The list of events, and
that a command word alone is one, are the model's own (log entries 2 and 3). -/
def Obligations.CrcEngineComputesCrc32 : Prop :=
  ∀ (s : State) (e : HostEvent) (events rest : List HostEvent),
    restartsCrc e = true → (∀ x ∈ events, restartsCrc x = false) →
    ∃ t u : State, step { s with hostQueue := e :: (events ++ rest) } = .next t ∧ core.run events.length t = .next u ∧
      u.hostQueue = rest ∧ crcOut u = crc32 (crcFed events.length t)

/-- R33, R34, R119 as an invariant of a step: where CRC_OUT is the CRC-32 of `p`, a step that does not start a new CRC leaves it
the CRC-32 of `p`, with CRC_DIN appended exactly when the step is a CRC_BYTE. The event a step takes, and that a command word alone
is one, are the model's own (log entries 2 and 3). The spec marks R119 as derived. -/
def Obligations.CrcEngineStepFeedsOneByte : Prop :=
  ∀ (s : State) (p : List Byte), crcOut s = crc32 p → (∀ e ∈ s.hostQueue.head?, restartsCrc e = false) →
    ∃ t, step s = .next t ∧ crcOut t = crc32 (p ++ if feedsNext s then [s.crcDin] else [])

/-- R118: ENCODE and DECODE neither read nor write CRC_ACC, CRC_DIN and CRC_CMP. -/
def Obligations.FrameCommandsIgnoreCrcEngine : Prop :=
  ∀ (s : State) (acc cmp : Word) (din : BitVec 8) (i : Instr), i = .encode ∨ i = .decode →
    ∃ t, exec i s = .next t ∧ t.crcAcc = s.crcAcc ∧ t.crcDin = s.crcDin ∧ t.crcCmp = s.crcCmp ∧
      exec i { s with crcAcc := acc, crcDin := din, crcCmp := cmp } =
        .next { t with crcAcc := acc, crcDin := din, crcCmp := cmp }

/-! ### ENCODE -/

/-- R130, R91, R92: ENCODE writes the frame of its three operand bytes, character by character. -/
def Obligations.EncodeWritesFrame : Prop :=
  decode (.cmdw 0x00000001) = .ok .encode ∧
  ∀ (s : State) (op reg val : Byte) (c : Word), c = crc32 [op, reg, val] →
    exec .encode { s with encIn := op ++ reg ++ val } = .next
      { s with
        encIn := op ++ reg ++ val
        txbuf := #v[0x41, 0x41, 0x35, 0x35, 0x30, 0x33,
          hexChar (op.extractLsb' 4 4), hexChar (op.extractLsb' 0 4),
          hexChar (reg.extractLsb' 4 4), hexChar (reg.extractLsb' 0 4),
          hexChar (val.extractLsb' 4 4), hexChar (val.extractLsb' 0 4),
          hexChar (c.extractLsb' 28 4), hexChar (c.extractLsb' 24 4),
          hexChar (c.extractLsb' 20 4), hexChar (c.extractLsb' 16 4),
          hexChar (c.extractLsb' 12 4), hexChar (c.extractLsb' 8 4),
          hexChar (c.extractLsb' 4 4), hexChar (c.extractLsb' 0 4),
          0x35, 0x35, 0x41, 0x41]
        txCount := 24, encCrc := c, statusResult := 0, statusFcause := 0 }

/-- R130: every character ENCODE writes is an uppercase hex digit. -/
def Obligations.EncodeWritesUppercaseHex : Prop :=
  ∀ s : State, ∃ t, exec .encode s = .next t ∧
    ∀ i : Fin 24, t.txbuf[i] ∈ asciiBytes "0123456789ABCDEF"

/-- R131: a state that holds a copy of ENCODE's 24 characters as its candidate decodes it to the three operand bytes, for every triple.
The spec marks the extension to all 2^24 triples as derived. -/
def Obligations.EncodeDecodeRoundTrip : Prop :=
  ∀ (s : State) (op reg val : Byte), ∃ t, exec .encode { s with encIn := op ++ reg ++ val } = .next t ∧
    ∀ u : State, u.rxCount = 24 → (∀ i : Fin 24, u.rxbuf[i.val] = t.txbuf[i]) →
      exec .decode u = .next
        { u with
          statusResult := 0, statusFcause := 0, statusDecValid := true, decLen := 3
          decFields := op ++ reg ++ val, crcExp := t.encCrc, crcAct := t.encCrc
          pbuf := Vector.ofFn fun j => [op, reg, val].getD j.val 0 }

/-! ### DECODE -/

/-- R140 S0: a count RXBUF cannot hold. -/
def Obligations.DecodeBadCount : Prop :=
  decode (.cmdw 0x00000002) = .ok .decode ∧
  ∀ s : State, 528 < s.rxCount.toNat → exec .decode s = .next (s.decodeFailed 4 0)

/-- R140 S1 to S3, in their order: HEADER, FOOTER, LEN_NOT_HEX. -/
def Obligations.DecodeMarkerChecks : Prop :=
  ∀ (s : State) (c : List Byte), s.candidate c →
    (¬ headerMarker <+: c → exec .decode s = .next (s.decodeFailed 1 1)) ∧
    (headerMarker <+: c → ¬ footerMarker <:+ c → exec .decode s = .next (s.decodeFailed 1 2)) ∧
    (headerMarker <+: c → footerMarker <:+ c → ¬ (isHex (charAt c 4) = true ∧ isHex (charAt c 5) = true) →
      exec .decode s = .next (s.decodeFailed 1 3))

/-- R140 S4 and S5: TRUNCATED and OVERLONG, by the length that LEN requires. -/
def Obligations.DecodeLengthChecks : Prop :=
  ∀ (s : State) (c : List Byte), s.candidate c → headerMarker <+: c → footerMarker <:+ c →
    isHex (charAt c 4) = true → isHex (charAt c 5) = true →
    (c.length < 18 + 2 * (16 * (hexVal (charAt c 4)).toNat + (hexVal (charAt c 5)).toNat) →
      exec .decode s = .next (s.decodeFailed 1 4)) ∧
    (18 + 2 * (16 * (hexVal (charAt c 4)).toNat + (hexVal (charAt c 5)).toNat) < c.length →
      exec .decode s = .next (s.decodeFailed 1 5))

/-- R140 S6 and S7: PAYLOAD_NOT_HEX and CRC_FIELD_NOT_HEX, on a candidate of the right length. -/
def Obligations.DecodeHexFieldChecks : Prop :=
  ∀ (s : State) (h l : Byte) (pay crc : List Byte),
    s.candidate (headerMarker ++ [h, l] ++ pay ++ crc ++ footerMarker) → isHex h = true → isHex l = true →
    pay.length = 2 * (16 * (hexVal h).toNat + (hexVal l).toNat) → crc.length = 8 →
    ((∃ b ∈ pay, isHex b = false) → exec .decode s = .next (s.decodeFailed 1 6)) ∧
    ((∀ b ∈ pay, isHex b = true) → (∃ b ∈ crc, isHex b = false) → exec .decode s = .next (s.decodeFailed 1 7))

/-- R140 S8 and S9: on a candidate whose fields are all hex, the checksum characters are compared with hex8 of the CRC of the payload bytes; CRC_EXP and
CRC_ACT are written either way, the other outputs only on acceptance. -/
def Obligations.DecodeChecksumStage : Prop :=
  ∀ (s : State) (p lenText pay crc : List Byte) (sent : Word), p.length ≤ 255 →
    s.candidate (headerMarker ++ lenText ++ pay ++ crc ++ footerMarker) →
    lenText.map upperHex = hex2 (BitVec.ofNat 8 p.length) → pay.map upperHex = payloadText p →
    crc.map upperHex = hex8 sent →
    (crc ≠ hex8 (crc32 p) →
      exec .decode s = .next { s.decodeFailed 2 0 with crcExp := crc32 p, crcAct := sent }) ∧
    (crc = hex8 (crc32 p) → exec .decode s = .next
      { s with
        statusResult := 0, statusFcause := 0, statusDecValid := true, decLen := BitVec.ofNat 8 p.length
        decFields := payloadFields p, crcExp := crc32 p, crcAct := crc32 p
        pbuf := Vector.ofFn fun j => p.getD j.val 0 })

/-- R140, R85: DECODE accepts a candidate exactly when it is a frame of some payload, and then gives that payload. -/
def Obligations.DecodeAcceptsExactlyFrames : Prop :=
  ∀ (s : State) (c : List Byte), s.candidate c →
    ∃ t, exec .decode s = .next t ∧ (t.statusResult = 0 ↔ ∃ p, readsAsFrame c p) ∧
      (t.statusDecValid = true ↔ t.statusResult = 0) ∧
      ∀ p, readsAsFrame c p → t.decLen.toNat = p.length ∧ t.decFields = payloadFields p ∧
        ∀ j : Fin 255, t.pbuf[j] = p.getD j.val 0

/-- R145: every DECODE completes, with one of the results the rule names. -/
def Obligations.DecodeAlwaysEndsInItsResults : Prop :=
  ∀ s : State, ∃ t, exec .decode s = .next t ∧
    (s.rxCount.toNat ≤ 528 → t.statusResult = 0 ∨ t.statusResult = 1 ∨ t.statusResult = 2) ∧
    (528 < s.rxCount.toNat → t.statusResult = 4)

/-- R142: what DECODE writes is a function of RX_COUNT and RXBUF[0..RX_COUNT) alone. -/
def Obligations.DecodeDependsOnCountedCharsOnly : Prop :=
  ∀ s u : State, s.rxCount = u.rxCount →
    (∀ i : Fin 528, i.val < s.rxCount.toNat → s.rxbuf[i] = u.rxbuf[i]) →
    ∃ t v, exec .decode s = .next t ∧ exec .decode u = .next v ∧ t.statusResult = v.statusResult ∧
      t.statusFcause = v.statusFcause ∧ t.statusDecValid = v.statusDecValid ∧ t.decLen = v.decLen ∧
      t.decFields = v.decFields ∧ t.crcExp = v.crcExp ∧ t.crcAct = v.crcAct ∧ t.pbuf = v.pbuf

/-- R140 ('Writes nothing else'), R193, R118: DECODE changes only its outputs and STATUS, leaves no field of a frame it does not accept, and leaves
checksums only where it compared them. -/
def Obligations.DecodeFrameAndNoBestGuess : Prop :=
  ∀ s : State, ∃ t, exec .decode s = .next t ∧
    t = { s with
      statusResult := t.statusResult, statusFcause := t.statusFcause, statusDecValid := t.statusDecValid
      decLen := t.decLen, decFields := t.decFields, crcExp := t.crcExp, crcAct := t.crcAct, pbuf := t.pbuf } ∧
    (t.statusResult ≠ 0 → t.statusDecValid = false ∧ t.decLen = 0 ∧ t.decFields = 0 ∧ t.pbuf = Vector.replicate 255 0) ∧
    (t.statusResult ≠ 0 → t.statusResult ≠ 2 → t.crcExp = 0 ∧ t.crcAct = 0)

/-- R144: changing one character of the CRC field of an accepted frame makes DECODE report CHECKSUM_MISMATCH where the new character is a hex
digit (of either case), and FRAMING_ERROR with CRC_FIELD_NOT_HEX where it is not. The spec marks R144 as derived. -/
def Obligations.ChecksumFieldCorruptionDetected : Prop :=
  ∀ (s t : State), exec .decode s = .next t → t.statusResult = 0 →
    ∀ (i : Fin 528) (b : Byte), 6 + 2 * t.decLen.toNat ≤ i.val → i.val < 14 + 2 * t.decLen.toNat → b ≠ s.rxbuf[i] →
      ∃ u, exec .decode { s with rxbuf := s.rxbuf.set i b } = .next u ∧
        (isHex b = true → u.statusResult = 2 ∧ u.statusFcause = 0) ∧
        (isHex b = false → u.statusResult = 1 ∧ u.statusFcause = 7)

/-- R144: changing one payload character of an accepted frame to a hex digit of another value makes DECODE report CHECKSUM_MISMATCH; changing
only its case changes nothing of what DECODE writes. The spec marks R144 as derived. A replacement that is no hex digit is in
`Obligations.DecodeHexFieldChecks`. -/
def Obligations.PayloadCorruptionDetected : Prop :=
  ∀ (s t : State), exec .decode s = .next t → t.statusResult = 0 →
    ∀ (i : Fin 528) (b : Byte), 6 ≤ i.val → i.val < 6 + 2 * t.decLen.toNat → isHex b = true →
      ∃ u, exec .decode { s with rxbuf := s.rxbuf.set i b } = .next u ∧
        (upperHex b ≠ upperHex s.rxbuf[i] → u.statusResult = 2 ∧ u.statusFcause = 0) ∧
        (upperHex b = upperHex s.rxbuf[i] → u = { t with rxbuf := s.rxbuf.set i b })
end

