-- ==== Sys2Proof/Laws/Encoding.lean ====
section
/-!
SUPPORT. The fields of a transaction and of a command word, each in one lemma.
-/

namespace Sys2Proof

theorem busWord_getLsbD (we : BitVec 1) (addr : HAddr) (data : Word) (i : Nat) :
    (busWord we addr data).getLsbD i =
      if i < 32 then data.getLsbD i else if i < 48 then addr.getLsbD (i - 32) else we.getLsbD (i - 48) := by
  unfold busWord
  rw [BitVec.getLsbD_append, BitVec.getLsbD_append]
  simp only [Nat.sub_sub]
  split
  · rfl
  · rename_i h
    have : (i - 32 < 16) ↔ i < 48 := by omega
    simp [this]

@[simp] theorem busWe_busWord (we : BitVec 1) (addr : HAddr) (data : Word) :
    busWe (busWord we addr data) = we.getLsbD 0 := by
  rw [busWe, busWord_getLsbD, if_neg (by decide), if_neg (by decide)]

@[simp] theorem busAddr_busWord (we : BitVec 1) (addr : HAddr) (data : Word) :
    busAddr (busWord we addr data) = addr := by
  apply BitVec.eq_of_getLsbD_eq
  intro i hi
  simp [busAddr, busWord_getLsbD, hi]
  omega

@[simp] theorem busData_busWord (we : BitVec 1) (addr : HAddr) (data : Word) :
    busData (busWord we addr data) = data := by
  apply BitVec.eq_of_getLsbD_eq
  intro i hi
  simp [busData, busWord_getLsbD, hi]

/-- A command word is the zero-extension of its code where its reserved bits are clear. -/
theorem cmdw_eq_of_reserved_clear {v : Word} (h : cmdwReserved v = 0) : v = (cmdwCode v).setWidth 32 := by
  apply BitVec.eq_of_getLsbD_eq
  intro i hi
  by_cases hb : i < 8
  · simp [cmdwCode, hb, hi]
  · have := congrArg (fun x => BitVec.getLsbD x (i - 8)) h
    simp [cmdwReserved, show i - 8 < 24 by omega, show 8 + (i - 8) = i by omega] at this
    simp [cmdwCode, hb, this]

/-- The word of each command (R82). -/
def Command.word : Command → Word
  | .nop => 0
  | .encode => 1
  | .decode => 2
  | .crcInit => 3
  | .crcByte => 4
  | .crcCheck => 5
  | .clear => 6

@[simp] theorem decodeCommand_word (c : Command) : decodeCommand c.word = .ok c := by cases c <;> rfl

/-- All that the command decoder can do: the word of a command gives that command, and any other word, which is above 6, is rejected. -/
theorem decodeCommand_cases (v : Word) :
    (∃ c : Command, v = c.word ∧ decodeCommand v = .ok c) ∨
      (6 < v.toNat ∧ ∃ e, decodeCommand v = .error e) := by
  by_cases hr : cmdwReserved v = 0
  · have hv := cmdw_eq_of_reserved_clear hr
    by_cases hc : v.toNat ≤ 6
    · left
      have : v = 0 ∨ v = 1 ∨ v = 2 ∨ v = 3 ∨ v = 4 ∨ v = 5 ∨ v = 6 := by bv_omega
      rcases this with rfl | rfl | rfl | rfl | rfl | rfl | rfl
      · exact ⟨.nop, rfl, rfl⟩
      · exact ⟨.encode, rfl, rfl⟩
      · exact ⟨.decode, rfl, rfl⟩
      · exact ⟨.crcInit, rfl, rfl⟩
      · exact ⟨.crcByte, rfl, rfl⟩
      · exact ⟨.crcCheck, rfl, rfl⟩
      · exact ⟨.clear, rfl, rfl⟩
    · right
      refine ⟨by omega, .undefinedCode v, ?_⟩
      have hn : v.toNat = (cmdwCode v).toNat := by
        have := congrArg BitVec.toNat hv
        rw [BitVec.toNat_setWidth] at this
        omega
      have : commandOfCode (cmdwCode v) = none := by
        unfold commandOfCode
        split <;> first | rfl | omega
      simp [decodeCommand, hr, this]
  · right
    refine ⟨?_, .reservedBitsSet v, if_pos hr⟩
    by_contra hc
    apply hr
    have : v = 0 ∨ v = 1 ∨ v = 2 ∨ v = 3 ∨ v = 4 ∨ v = 5 ∨ v = 6 := by bv_omega
    rcases this with rfl | rfl | rfl | rfl | rfl | rfl | rfl <;> rfl

end Sys2Proof
end

