-- ==== Sys2Proof/Laws/Frame.lean ====
section
/-!
SUPPORT. The ways a candidate frame can be judged, one case a step of R140.
-/

namespace Sys2Proof.Machine

/-- The last two steps: the checksum field differs from, or is, hex8 of the recomputed CRC. -/
theorem judgeChecksum_cases (s : List Byte) (len : Byte) :
    (crcChars s len.toNat ≠ hex8 (crc32 (unhex (payloadChars s len.toNat))) ∧
        judgeChecksum s len = .checksumMismatch (crc32 (unhex (payloadChars s len.toNat)))
          (hexNumber (crcChars s len.toNat))) ∨
      (crcChars s len.toNat = hex8 (crc32 (unhex (payloadChars s len.toNat))) ∧
        judgeChecksum s len = .accepted len (unhex (payloadChars s len.toNat))
          (crc32 (unhex (payloadChars s len.toNat))) (hexNumber (crcChars s len.toNat))) := by
  unfold judgeChecksum
  by_cases h : crcChars s len.toNat = hex8 (crc32 (unhex (payloadChars s len.toNat)))
  · exact .inr ⟨h, if_neg (not_not_intro h)⟩
  · exact .inl ⟨h, if_pos h⟩

/-- S4 to S7, and past them the checksum. -/
theorem judgeBody_cases (s : List Byte) (len : Byte) :
    (s.length < 18 + 2 * len.toNat ∧ judgeBody s len = .framingError .truncated) ∨
      (18 + 2 * len.toNat < s.length ∧ judgeBody s len = .framingError .overlong) ∨
      (s.length = 18 + 2 * len.toNat ∧
        ((¬ (payloadChars s len.toNat).all isHex = true ∧ judgeBody s len = .framingError .payloadNotHex) ∨
          ((payloadChars s len.toNat).all isHex = true ∧
            ((¬ (crcChars s len.toNat).all isHex = true ∧ judgeBody s len = .framingError .crcFieldNotHex) ∨
              ((crcChars s len.toNat).all isHex = true ∧ judgeBody s len = judgeChecksum s len))))) := by
  unfold judgeBody
  by_cases h1 : s.length < 18 + 2 * len.toNat
  · exact .inl ⟨h1, if_pos h1⟩
  by_cases h2 : 18 + 2 * len.toNat < s.length
  · exact .inr (.inl ⟨h2, by rw [if_neg h1, if_pos h2]⟩)
  refine .inr (.inr ⟨by omega, ?_⟩)
  rw [if_neg h1, if_neg h2]
  by_cases h3 : (payloadChars s len.toNat).all isHex = true
  · refine .inr ⟨h3, ?_⟩
    rw [if_neg (not_not_intro h3)]
    by_cases h4 : (crcChars s len.toNat).all isHex = true
    · exact .inr ⟨h4, if_neg (not_not_intro h4)⟩
    · exact .inl ⟨h4, if_pos h4⟩
  · exact .inl ⟨h3, if_pos h3⟩

/-- S1 to S3, and past them the body under the decoded LEN. -/
theorem judgeFrame_cases (s : List Byte) :
    ((s.length < 4 ∨ s.take 4 ≠ headerMarker) ∧ judgeFrame s = .framingError .header) ∨
      (4 ≤ s.length ∧ s.take 4 = headerMarker ∧
        ((s.drop (s.length - 4) ≠ footerMarker ∧ judgeFrame s = .framingError .footer) ∨
          (s.drop (s.length - 4) = footerMarker ∧
            (((s.length < 6 ∨ ¬ isHex (charAt s 4) ∨ ¬ isHex (charAt s 5)) ∧
                judgeFrame s = .framingError .lenNotHex) ∨
              (6 ≤ s.length ∧ isHex (charAt s 4) ∧ isHex (charAt s 5) ∧
                judgeFrame s = judgeBody s (hexPair (charAt s 4) (charAt s 5))))))) := by
  unfold judgeFrame
  by_cases h1 : s.length < 4 ∨ s.take 4 ≠ headerMarker
  · exact .inl ⟨h1, if_pos h1⟩
  rw [if_neg h1]
  rw [not_or, not_not] at h1
  refine .inr ⟨by omega, h1.2, ?_⟩
  by_cases h2 : s.drop (s.length - 4) = footerMarker
  · refine .inr ⟨h2, ?_⟩
    rw [if_neg (not_not_intro h2)]
    by_cases h3 : s.length < 6 ∨ ¬ isHex (charAt s 4) ∨ ¬ isHex (charAt s 5)
    · exact .inl ⟨h3, if_pos h3⟩
    · refine .inr ?_
      rw [if_neg h3]
      rw [not_or, not_or, not_not, not_not] at h3
      exact ⟨by omega, h3.2.1, h3.2.2, rfl⟩
  · exact .inl ⟨h2, if_pos h2⟩

end Sys2Proof.Machine
end

