-- ==== Sys2Proof/Laws/State.lean ====
section
/-!
SUPPORT. The fields of the state after each named update, one lemma a field, so that no proof unfolds an update.
-/

namespace Sys2Proof.Machine

section setOutcome
variable (s : State) (r : ResultCode) (c : FCause)

@[simp] theorem setOutcome_statusResult : (setOutcome r c s).statusResult = r.code := rfl
@[simp] theorem setOutcome_statusFcause : (setOutcome r c s).statusFcause = c.code := rfl
@[simp] theorem setOutcome_statusDecValid : (setOutcome r c s).statusDecValid = s.statusDecValid := rfl
@[simp] theorem setOutcome_encIn : (setOutcome r c s).encIn = s.encIn := rfl
@[simp] theorem setOutcome_encCrc : (setOutcome r c s).encCrc = s.encCrc := rfl
@[simp] theorem setOutcome_txCount : (setOutcome r c s).txCount = s.txCount := rfl
@[simp] theorem setOutcome_rxCount : (setOutcome r c s).rxCount = s.rxCount := rfl
@[simp] theorem setOutcome_decLen : (setOutcome r c s).decLen = s.decLen := rfl
@[simp] theorem setOutcome_decFields : (setOutcome r c s).decFields = s.decFields := rfl
@[simp] theorem setOutcome_crcExp : (setOutcome r c s).crcExp = s.crcExp := rfl
@[simp] theorem setOutcome_crcAct : (setOutcome r c s).crcAct = s.crcAct := rfl
@[simp] theorem setOutcome_crcAcc : (setOutcome r c s).crcAcc = s.crcAcc := rfl
@[simp] theorem setOutcome_crcDin : (setOutcome r c s).crcDin = s.crcDin := rfl
@[simp] theorem setOutcome_crcCmp : (setOutcome r c s).crcCmp = s.crcCmp := rfl
@[simp] theorem setOutcome_txbuf : (setOutcome r c s).txbuf = s.txbuf := rfl
@[simp] theorem setOutcome_rxbuf : (setOutcome r c s).rxbuf = s.rxbuf := rfl
@[simp] theorem setOutcome_pbuf : (setOutcome r c s).pbuf = s.pbuf := rfl
@[simp] theorem setOutcome_hostFaults : (setOutcome r c s).hostFaults = s.hostFaults := rfl
@[simp] theorem setOutcome_readData : (setOutcome r c s).readData = s.readData := rfl
@[simp] theorem setOutcome_hostQueue : (setOutcome r c s).hostQueue = s.hostQueue := rfl
@[simp] theorem setOutcome_resetCount : (setOutcome r c s).resetCount = s.resetCount := rfl

end setOutcome

section setOk
variable (s : State)

@[simp] theorem setOk_statusResult : (setOk s).statusResult = 0 := rfl
@[simp] theorem setOk_statusFcause : (setOk s).statusFcause = 0 := rfl
@[simp] theorem setOk_statusDecValid : (setOk s).statusDecValid = s.statusDecValid := rfl
@[simp] theorem setOk_encIn : (setOk s).encIn = s.encIn := rfl
@[simp] theorem setOk_encCrc : (setOk s).encCrc = s.encCrc := rfl
@[simp] theorem setOk_txCount : (setOk s).txCount = s.txCount := rfl
@[simp] theorem setOk_rxCount : (setOk s).rxCount = s.rxCount := rfl
@[simp] theorem setOk_decLen : (setOk s).decLen = s.decLen := rfl
@[simp] theorem setOk_decFields : (setOk s).decFields = s.decFields := rfl
@[simp] theorem setOk_crcExp : (setOk s).crcExp = s.crcExp := rfl
@[simp] theorem setOk_crcAct : (setOk s).crcAct = s.crcAct := rfl
@[simp] theorem setOk_crcAcc : (setOk s).crcAcc = s.crcAcc := rfl
@[simp] theorem setOk_crcDin : (setOk s).crcDin = s.crcDin := rfl
@[simp] theorem setOk_crcCmp : (setOk s).crcCmp = s.crcCmp := rfl
@[simp] theorem setOk_txbuf : (setOk s).txbuf = s.txbuf := rfl
@[simp] theorem setOk_rxbuf : (setOk s).rxbuf = s.rxbuf := rfl
@[simp] theorem setOk_pbuf : (setOk s).pbuf = s.pbuf := rfl
@[simp] theorem setOk_hostFaults : (setOk s).hostFaults = s.hostFaults := rfl
@[simp] theorem setOk_readData : (setOk s).readData = s.readData := rfl
@[simp] theorem setOk_hostQueue : (setOk s).hostQueue = s.hostQueue := rfl
@[simp] theorem setOk_resetCount : (setOk s).resetCount = s.resetCount := rfl

end setOk

section raiseHostAccessFault
variable (s : State) (d : Direction) (a : HAddr)

@[simp] theorem raiseHostAccessFault_statusResult : (raiseHostAccessFault d a s).statusResult = s.statusResult := rfl
@[simp] theorem raiseHostAccessFault_statusFcause : (raiseHostAccessFault d a s).statusFcause = s.statusFcause := rfl
@[simp] theorem raiseHostAccessFault_statusDecValid : (raiseHostAccessFault d a s).statusDecValid = s.statusDecValid := rfl
@[simp] theorem raiseHostAccessFault_encIn : (raiseHostAccessFault d a s).encIn = s.encIn := rfl
@[simp] theorem raiseHostAccessFault_encCrc : (raiseHostAccessFault d a s).encCrc = s.encCrc := rfl
@[simp] theorem raiseHostAccessFault_txCount : (raiseHostAccessFault d a s).txCount = s.txCount := rfl
@[simp] theorem raiseHostAccessFault_rxCount : (raiseHostAccessFault d a s).rxCount = s.rxCount := rfl
@[simp] theorem raiseHostAccessFault_decLen : (raiseHostAccessFault d a s).decLen = s.decLen := rfl
@[simp] theorem raiseHostAccessFault_decFields : (raiseHostAccessFault d a s).decFields = s.decFields := rfl
@[simp] theorem raiseHostAccessFault_crcExp : (raiseHostAccessFault d a s).crcExp = s.crcExp := rfl
@[simp] theorem raiseHostAccessFault_crcAct : (raiseHostAccessFault d a s).crcAct = s.crcAct := rfl
@[simp] theorem raiseHostAccessFault_crcAcc : (raiseHostAccessFault d a s).crcAcc = s.crcAcc := rfl
@[simp] theorem raiseHostAccessFault_crcDin : (raiseHostAccessFault d a s).crcDin = s.crcDin := rfl
@[simp] theorem raiseHostAccessFault_crcCmp : (raiseHostAccessFault d a s).crcCmp = s.crcCmp := rfl
@[simp] theorem raiseHostAccessFault_txbuf : (raiseHostAccessFault d a s).txbuf = s.txbuf := rfl
@[simp] theorem raiseHostAccessFault_rxbuf : (raiseHostAccessFault d a s).rxbuf = s.rxbuf := rfl
@[simp] theorem raiseHostAccessFault_pbuf : (raiseHostAccessFault d a s).pbuf = s.pbuf := rfl
@[simp] theorem raiseHostAccessFault_hostFaults : (raiseHostAccessFault d a s).hostFaults = s.hostFaults ++ [{ dir := d, addr := a }] := rfl
@[simp] theorem raiseHostAccessFault_readData : (raiseHostAccessFault d a s).readData = s.readData := rfl
@[simp] theorem raiseHostAccessFault_hostQueue : (raiseHostAccessFault d a s).hostQueue = s.hostQueue := rfl
@[simp] theorem raiseHostAccessFault_resetCount : (raiseHostAccessFault d a s).resetCount = s.resetCount := rfl

end raiseHostAccessFault

section returnData
variable (s : State) (d : Option Word)

@[simp] theorem returnData_statusResult : (returnData d s).statusResult = s.statusResult := rfl
@[simp] theorem returnData_statusFcause : (returnData d s).statusFcause = s.statusFcause := rfl
@[simp] theorem returnData_statusDecValid : (returnData d s).statusDecValid = s.statusDecValid := rfl
@[simp] theorem returnData_encIn : (returnData d s).encIn = s.encIn := rfl
@[simp] theorem returnData_encCrc : (returnData d s).encCrc = s.encCrc := rfl
@[simp] theorem returnData_txCount : (returnData d s).txCount = s.txCount := rfl
@[simp] theorem returnData_rxCount : (returnData d s).rxCount = s.rxCount := rfl
@[simp] theorem returnData_decLen : (returnData d s).decLen = s.decLen := rfl
@[simp] theorem returnData_decFields : (returnData d s).decFields = s.decFields := rfl
@[simp] theorem returnData_crcExp : (returnData d s).crcExp = s.crcExp := rfl
@[simp] theorem returnData_crcAct : (returnData d s).crcAct = s.crcAct := rfl
@[simp] theorem returnData_crcAcc : (returnData d s).crcAcc = s.crcAcc := rfl
@[simp] theorem returnData_crcDin : (returnData d s).crcDin = s.crcDin := rfl
@[simp] theorem returnData_crcCmp : (returnData d s).crcCmp = s.crcCmp := rfl
@[simp] theorem returnData_txbuf : (returnData d s).txbuf = s.txbuf := rfl
@[simp] theorem returnData_rxbuf : (returnData d s).rxbuf = s.rxbuf := rfl
@[simp] theorem returnData_pbuf : (returnData d s).pbuf = s.pbuf := rfl
@[simp] theorem returnData_hostFaults : (returnData d s).hostFaults = s.hostFaults := rfl
@[simp] theorem returnData_readData : (returnData d s).readData = d := rfl
@[simp] theorem returnData_hostQueue : (returnData d s).hostQueue = s.hostQueue := rfl
@[simp] theorem returnData_resetCount : (returnData d s).resetCount = s.resetCount := rfl

end returnData

section writeEncodeOutputs
variable (s : State) (f : List Byte) (c : Word)

@[simp] theorem writeEncodeOutputs_statusResult : (writeEncodeOutputs f c s).statusResult = s.statusResult := rfl
@[simp] theorem writeEncodeOutputs_statusFcause : (writeEncodeOutputs f c s).statusFcause = s.statusFcause := rfl
@[simp] theorem writeEncodeOutputs_statusDecValid : (writeEncodeOutputs f c s).statusDecValid = s.statusDecValid := rfl
@[simp] theorem writeEncodeOutputs_encIn : (writeEncodeOutputs f c s).encIn = s.encIn := rfl
@[simp] theorem writeEncodeOutputs_encCrc : (writeEncodeOutputs f c s).encCrc = c := rfl
@[simp] theorem writeEncodeOutputs_txCount : (writeEncodeOutputs f c s).txCount = 24 := rfl
@[simp] theorem writeEncodeOutputs_rxCount : (writeEncodeOutputs f c s).rxCount = s.rxCount := rfl
@[simp] theorem writeEncodeOutputs_decLen : (writeEncodeOutputs f c s).decLen = s.decLen := rfl
@[simp] theorem writeEncodeOutputs_decFields : (writeEncodeOutputs f c s).decFields = s.decFields := rfl
@[simp] theorem writeEncodeOutputs_crcExp : (writeEncodeOutputs f c s).crcExp = s.crcExp := rfl
@[simp] theorem writeEncodeOutputs_crcAct : (writeEncodeOutputs f c s).crcAct = s.crcAct := rfl
@[simp] theorem writeEncodeOutputs_crcAcc : (writeEncodeOutputs f c s).crcAcc = s.crcAcc := rfl
@[simp] theorem writeEncodeOutputs_crcDin : (writeEncodeOutputs f c s).crcDin = s.crcDin := rfl
@[simp] theorem writeEncodeOutputs_crcCmp : (writeEncodeOutputs f c s).crcCmp = s.crcCmp := rfl
@[simp] theorem writeEncodeOutputs_txbuf : (writeEncodeOutputs f c s).txbuf = fillBuffer 24 f := rfl
@[simp] theorem writeEncodeOutputs_rxbuf : (writeEncodeOutputs f c s).rxbuf = s.rxbuf := rfl
@[simp] theorem writeEncodeOutputs_pbuf : (writeEncodeOutputs f c s).pbuf = s.pbuf := rfl
@[simp] theorem writeEncodeOutputs_hostFaults : (writeEncodeOutputs f c s).hostFaults = s.hostFaults := rfl
@[simp] theorem writeEncodeOutputs_readData : (writeEncodeOutputs f c s).readData = s.readData := rfl
@[simp] theorem writeEncodeOutputs_hostQueue : (writeEncodeOutputs f c s).hostQueue = s.hostQueue := rfl
@[simp] theorem writeEncodeOutputs_resetCount : (writeEncodeOutputs f c s).resetCount = s.resetCount := rfl

end writeEncodeOutputs

section clearEncodeOutputs
variable (s : State)

@[simp] theorem clearEncodeOutputs_statusResult : (clearEncodeOutputs s).statusResult = s.statusResult := rfl
@[simp] theorem clearEncodeOutputs_statusFcause : (clearEncodeOutputs s).statusFcause = s.statusFcause := rfl
@[simp] theorem clearEncodeOutputs_statusDecValid : (clearEncodeOutputs s).statusDecValid = s.statusDecValid := rfl
@[simp] theorem clearEncodeOutputs_encIn : (clearEncodeOutputs s).encIn = s.encIn := rfl
@[simp] theorem clearEncodeOutputs_encCrc : (clearEncodeOutputs s).encCrc = 0 := rfl
@[simp] theorem clearEncodeOutputs_txCount : (clearEncodeOutputs s).txCount = 0 := rfl
@[simp] theorem clearEncodeOutputs_rxCount : (clearEncodeOutputs s).rxCount = s.rxCount := rfl
@[simp] theorem clearEncodeOutputs_decLen : (clearEncodeOutputs s).decLen = s.decLen := rfl
@[simp] theorem clearEncodeOutputs_decFields : (clearEncodeOutputs s).decFields = s.decFields := rfl
@[simp] theorem clearEncodeOutputs_crcExp : (clearEncodeOutputs s).crcExp = s.crcExp := rfl
@[simp] theorem clearEncodeOutputs_crcAct : (clearEncodeOutputs s).crcAct = s.crcAct := rfl
@[simp] theorem clearEncodeOutputs_crcAcc : (clearEncodeOutputs s).crcAcc = s.crcAcc := rfl
@[simp] theorem clearEncodeOutputs_crcDin : (clearEncodeOutputs s).crcDin = s.crcDin := rfl
@[simp] theorem clearEncodeOutputs_crcCmp : (clearEncodeOutputs s).crcCmp = s.crcCmp := rfl
@[simp] theorem clearEncodeOutputs_txbuf : (clearEncodeOutputs s).txbuf = Vector.replicate 24 0 := rfl
@[simp] theorem clearEncodeOutputs_rxbuf : (clearEncodeOutputs s).rxbuf = s.rxbuf := rfl
@[simp] theorem clearEncodeOutputs_pbuf : (clearEncodeOutputs s).pbuf = s.pbuf := rfl
@[simp] theorem clearEncodeOutputs_hostFaults : (clearEncodeOutputs s).hostFaults = s.hostFaults := rfl
@[simp] theorem clearEncodeOutputs_readData : (clearEncodeOutputs s).readData = s.readData := rfl
@[simp] theorem clearEncodeOutputs_hostQueue : (clearEncodeOutputs s).hostQueue = s.hostQueue := rfl
@[simp] theorem clearEncodeOutputs_resetCount : (clearEncodeOutputs s).resetCount = s.resetCount := rfl

end clearEncodeOutputs

section clearDecodeOutputs
variable (s : State)

@[simp] theorem clearDecodeOutputs_statusResult : (clearDecodeOutputs s).statusResult = s.statusResult := rfl
@[simp] theorem clearDecodeOutputs_statusFcause : (clearDecodeOutputs s).statusFcause = s.statusFcause := rfl
@[simp] theorem clearDecodeOutputs_statusDecValid : (clearDecodeOutputs s).statusDecValid = false := rfl
@[simp] theorem clearDecodeOutputs_encIn : (clearDecodeOutputs s).encIn = s.encIn := rfl
@[simp] theorem clearDecodeOutputs_encCrc : (clearDecodeOutputs s).encCrc = s.encCrc := rfl
@[simp] theorem clearDecodeOutputs_txCount : (clearDecodeOutputs s).txCount = s.txCount := rfl
@[simp] theorem clearDecodeOutputs_rxCount : (clearDecodeOutputs s).rxCount = s.rxCount := rfl
@[simp] theorem clearDecodeOutputs_decLen : (clearDecodeOutputs s).decLen = 0 := rfl
@[simp] theorem clearDecodeOutputs_decFields : (clearDecodeOutputs s).decFields = 0 := rfl
@[simp] theorem clearDecodeOutputs_crcExp : (clearDecodeOutputs s).crcExp = 0 := rfl
@[simp] theorem clearDecodeOutputs_crcAct : (clearDecodeOutputs s).crcAct = 0 := rfl
@[simp] theorem clearDecodeOutputs_crcAcc : (clearDecodeOutputs s).crcAcc = s.crcAcc := rfl
@[simp] theorem clearDecodeOutputs_crcDin : (clearDecodeOutputs s).crcDin = s.crcDin := rfl
@[simp] theorem clearDecodeOutputs_crcCmp : (clearDecodeOutputs s).crcCmp = s.crcCmp := rfl
@[simp] theorem clearDecodeOutputs_txbuf : (clearDecodeOutputs s).txbuf = s.txbuf := rfl
@[simp] theorem clearDecodeOutputs_rxbuf : (clearDecodeOutputs s).rxbuf = s.rxbuf := rfl
@[simp] theorem clearDecodeOutputs_pbuf : (clearDecodeOutputs s).pbuf = Vector.replicate 255 0 := rfl
@[simp] theorem clearDecodeOutputs_hostFaults : (clearDecodeOutputs s).hostFaults = s.hostFaults := rfl
@[simp] theorem clearDecodeOutputs_readData : (clearDecodeOutputs s).readData = s.readData := rfl
@[simp] theorem clearDecodeOutputs_hostQueue : (clearDecodeOutputs s).hostQueue = s.hostQueue := rfl
@[simp] theorem clearDecodeOutputs_resetCount : (clearDecodeOutputs s).resetCount = s.resetCount := rfl

end clearDecodeOutputs

section writeChecksums
variable (s : State) (e a : Word)

@[simp] theorem writeChecksums_statusResult : (writeChecksums e a s).statusResult = s.statusResult := rfl
@[simp] theorem writeChecksums_statusFcause : (writeChecksums e a s).statusFcause = s.statusFcause := rfl
@[simp] theorem writeChecksums_statusDecValid : (writeChecksums e a s).statusDecValid = s.statusDecValid := rfl
@[simp] theorem writeChecksums_encIn : (writeChecksums e a s).encIn = s.encIn := rfl
@[simp] theorem writeChecksums_encCrc : (writeChecksums e a s).encCrc = s.encCrc := rfl
@[simp] theorem writeChecksums_txCount : (writeChecksums e a s).txCount = s.txCount := rfl
@[simp] theorem writeChecksums_rxCount : (writeChecksums e a s).rxCount = s.rxCount := rfl
@[simp] theorem writeChecksums_decLen : (writeChecksums e a s).decLen = s.decLen := rfl
@[simp] theorem writeChecksums_decFields : (writeChecksums e a s).decFields = s.decFields := rfl
@[simp] theorem writeChecksums_crcExp : (writeChecksums e a s).crcExp = e := rfl
@[simp] theorem writeChecksums_crcAct : (writeChecksums e a s).crcAct = a := rfl
@[simp] theorem writeChecksums_crcAcc : (writeChecksums e a s).crcAcc = s.crcAcc := rfl
@[simp] theorem writeChecksums_crcDin : (writeChecksums e a s).crcDin = s.crcDin := rfl
@[simp] theorem writeChecksums_crcCmp : (writeChecksums e a s).crcCmp = s.crcCmp := rfl
@[simp] theorem writeChecksums_txbuf : (writeChecksums e a s).txbuf = s.txbuf := rfl
@[simp] theorem writeChecksums_rxbuf : (writeChecksums e a s).rxbuf = s.rxbuf := rfl
@[simp] theorem writeChecksums_pbuf : (writeChecksums e a s).pbuf = s.pbuf := rfl
@[simp] theorem writeChecksums_hostFaults : (writeChecksums e a s).hostFaults = s.hostFaults := rfl
@[simp] theorem writeChecksums_readData : (writeChecksums e a s).readData = s.readData := rfl
@[simp] theorem writeChecksums_hostQueue : (writeChecksums e a s).hostQueue = s.hostQueue := rfl
@[simp] theorem writeChecksums_resetCount : (writeChecksums e a s).resetCount = s.resetCount := rfl

end writeChecksums

section writeDecodedFields
variable (s : State) (l : Byte) (p : List Byte)

@[simp] theorem writeDecodedFields_statusResult : (writeDecodedFields l p s).statusResult = s.statusResult := rfl
@[simp] theorem writeDecodedFields_statusFcause : (writeDecodedFields l p s).statusFcause = s.statusFcause := rfl
@[simp] theorem writeDecodedFields_statusDecValid : (writeDecodedFields l p s).statusDecValid = true := rfl
@[simp] theorem writeDecodedFields_encIn : (writeDecodedFields l p s).encIn = s.encIn := rfl
@[simp] theorem writeDecodedFields_encCrc : (writeDecodedFields l p s).encCrc = s.encCrc := rfl
@[simp] theorem writeDecodedFields_txCount : (writeDecodedFields l p s).txCount = s.txCount := rfl
@[simp] theorem writeDecodedFields_rxCount : (writeDecodedFields l p s).rxCount = s.rxCount := rfl
@[simp] theorem writeDecodedFields_decLen : (writeDecodedFields l p s).decLen = l := rfl
@[simp] theorem writeDecodedFields_decFields : (writeDecodedFields l p s).decFields = packFields (fillBuffer 255 p) := rfl
@[simp] theorem writeDecodedFields_crcExp : (writeDecodedFields l p s).crcExp = s.crcExp := rfl
@[simp] theorem writeDecodedFields_crcAct : (writeDecodedFields l p s).crcAct = s.crcAct := rfl
@[simp] theorem writeDecodedFields_crcAcc : (writeDecodedFields l p s).crcAcc = s.crcAcc := rfl
@[simp] theorem writeDecodedFields_crcDin : (writeDecodedFields l p s).crcDin = s.crcDin := rfl
@[simp] theorem writeDecodedFields_crcCmp : (writeDecodedFields l p s).crcCmp = s.crcCmp := rfl
@[simp] theorem writeDecodedFields_txbuf : (writeDecodedFields l p s).txbuf = s.txbuf := rfl
@[simp] theorem writeDecodedFields_rxbuf : (writeDecodedFields l p s).rxbuf = s.rxbuf := rfl
@[simp] theorem writeDecodedFields_pbuf : (writeDecodedFields l p s).pbuf = fillBuffer 255 p := rfl
@[simp] theorem writeDecodedFields_hostFaults : (writeDecodedFields l p s).hostFaults = s.hostFaults := rfl
@[simp] theorem writeDecodedFields_readData : (writeDecodedFields l p s).readData = s.readData := rfl
@[simp] theorem writeDecodedFields_hostQueue : (writeDecodedFields l p s).hostQueue = s.hostQueue := rfl
@[simp] theorem writeDecodedFields_resetCount : (writeDecodedFields l p s).resetCount = s.resetCount := rfl

end writeDecodedFields

section setCrcAcc
variable (s : State) (c : Word)

@[simp] theorem setCrcAcc_statusResult : (setCrcAcc c s).statusResult = s.statusResult := rfl
@[simp] theorem setCrcAcc_statusFcause : (setCrcAcc c s).statusFcause = s.statusFcause := rfl
@[simp] theorem setCrcAcc_statusDecValid : (setCrcAcc c s).statusDecValid = s.statusDecValid := rfl
@[simp] theorem setCrcAcc_encIn : (setCrcAcc c s).encIn = s.encIn := rfl
@[simp] theorem setCrcAcc_encCrc : (setCrcAcc c s).encCrc = s.encCrc := rfl
@[simp] theorem setCrcAcc_txCount : (setCrcAcc c s).txCount = s.txCount := rfl
@[simp] theorem setCrcAcc_rxCount : (setCrcAcc c s).rxCount = s.rxCount := rfl
@[simp] theorem setCrcAcc_decLen : (setCrcAcc c s).decLen = s.decLen := rfl
@[simp] theorem setCrcAcc_decFields : (setCrcAcc c s).decFields = s.decFields := rfl
@[simp] theorem setCrcAcc_crcExp : (setCrcAcc c s).crcExp = s.crcExp := rfl
@[simp] theorem setCrcAcc_crcAct : (setCrcAcc c s).crcAct = s.crcAct := rfl
@[simp] theorem setCrcAcc_crcAcc : (setCrcAcc c s).crcAcc = c := rfl
@[simp] theorem setCrcAcc_crcDin : (setCrcAcc c s).crcDin = s.crcDin := rfl
@[simp] theorem setCrcAcc_crcCmp : (setCrcAcc c s).crcCmp = s.crcCmp := rfl
@[simp] theorem setCrcAcc_txbuf : (setCrcAcc c s).txbuf = s.txbuf := rfl
@[simp] theorem setCrcAcc_rxbuf : (setCrcAcc c s).rxbuf = s.rxbuf := rfl
@[simp] theorem setCrcAcc_pbuf : (setCrcAcc c s).pbuf = s.pbuf := rfl
@[simp] theorem setCrcAcc_hostFaults : (setCrcAcc c s).hostFaults = s.hostFaults := rfl
@[simp] theorem setCrcAcc_readData : (setCrcAcc c s).readData = s.readData := rfl
@[simp] theorem setCrcAcc_hostQueue : (setCrcAcc c s).hostQueue = s.hostQueue := rfl
@[simp] theorem setCrcAcc_resetCount : (setCrcAcc c s).resetCount = s.resetCount := rfl

end setCrcAcc

section presentFirst
variable (s : State) (w : RawWord)

@[simp] theorem presentFirst_statusResult : (presentFirst w s).statusResult = s.statusResult := rfl
@[simp] theorem presentFirst_statusFcause : (presentFirst w s).statusFcause = s.statusFcause := rfl
@[simp] theorem presentFirst_statusDecValid : (presentFirst w s).statusDecValid = s.statusDecValid := rfl
@[simp] theorem presentFirst_encIn : (presentFirst w s).encIn = s.encIn := rfl
@[simp] theorem presentFirst_encCrc : (presentFirst w s).encCrc = s.encCrc := rfl
@[simp] theorem presentFirst_txCount : (presentFirst w s).txCount = s.txCount := rfl
@[simp] theorem presentFirst_rxCount : (presentFirst w s).rxCount = s.rxCount := rfl
@[simp] theorem presentFirst_decLen : (presentFirst w s).decLen = s.decLen := rfl
@[simp] theorem presentFirst_decFields : (presentFirst w s).decFields = s.decFields := rfl
@[simp] theorem presentFirst_crcExp : (presentFirst w s).crcExp = s.crcExp := rfl
@[simp] theorem presentFirst_crcAct : (presentFirst w s).crcAct = s.crcAct := rfl
@[simp] theorem presentFirst_crcAcc : (presentFirst w s).crcAcc = s.crcAcc := rfl
@[simp] theorem presentFirst_crcDin : (presentFirst w s).crcDin = s.crcDin := rfl
@[simp] theorem presentFirst_crcCmp : (presentFirst w s).crcCmp = s.crcCmp := rfl
@[simp] theorem presentFirst_txbuf : (presentFirst w s).txbuf = s.txbuf := rfl
@[simp] theorem presentFirst_rxbuf : (presentFirst w s).rxbuf = s.rxbuf := rfl
@[simp] theorem presentFirst_pbuf : (presentFirst w s).pbuf = s.pbuf := rfl
@[simp] theorem presentFirst_hostFaults : (presentFirst w s).hostFaults = s.hostFaults := rfl
@[simp] theorem presentFirst_readData : (presentFirst w s).readData = s.readData := rfl
@[simp] theorem presentFirst_hostQueue : (presentFirst w s).hostQueue = .present w :: s.hostQueue := rfl
@[simp] theorem presentFirst_resetCount : (presentFirst w s).resetCount = s.resetCount := rfl

end presentFirst

section resetBlock
variable (s : State)

@[simp] theorem resetBlock_statusResult : (resetBlock s).statusResult = 0 := rfl
@[simp] theorem resetBlock_statusFcause : (resetBlock s).statusFcause = 0 := rfl
@[simp] theorem resetBlock_statusDecValid : (resetBlock s).statusDecValid = false := rfl
@[simp] theorem resetBlock_encIn : (resetBlock s).encIn = 0 := rfl
@[simp] theorem resetBlock_encCrc : (resetBlock s).encCrc = 0 := rfl
@[simp] theorem resetBlock_txCount : (resetBlock s).txCount = 0 := rfl
@[simp] theorem resetBlock_rxCount : (resetBlock s).rxCount = 0 := rfl
@[simp] theorem resetBlock_decLen : (resetBlock s).decLen = 0 := rfl
@[simp] theorem resetBlock_decFields : (resetBlock s).decFields = 0 := rfl
@[simp] theorem resetBlock_crcExp : (resetBlock s).crcExp = 0 := rfl
@[simp] theorem resetBlock_crcAct : (resetBlock s).crcAct = 0 := rfl
@[simp] theorem resetBlock_crcAcc : (resetBlock s).crcAcc = 0xFFFFFFFF := rfl
@[simp] theorem resetBlock_crcDin : (resetBlock s).crcDin = 0 := rfl
@[simp] theorem resetBlock_crcCmp : (resetBlock s).crcCmp = 0 := rfl
@[simp] theorem resetBlock_txbuf : (resetBlock s).txbuf = Vector.replicate 24 0 := rfl
@[simp] theorem resetBlock_rxbuf : (resetBlock s).rxbuf = Vector.ofFn fun i => Config.rxbufDraw (s.resetCount + 1) i.val := rfl
@[simp] theorem resetBlock_pbuf : (resetBlock s).pbuf = Vector.replicate 255 0 := rfl
@[simp] theorem resetBlock_hostFaults : (resetBlock s).hostFaults = s.hostFaults := rfl
@[simp] theorem resetBlock_readData : (resetBlock s).readData = s.readData := rfl
@[simp] theorem resetBlock_hostQueue : (resetBlock s).hostQueue = s.hostQueue := rfl
@[simp] theorem resetBlock_resetCount : (resetBlock s).resetCount = s.resetCount + 1 := rfl

end resetBlock

section reset

@[simp] theorem reset_statusResult : State.reset.statusResult = 0 := rfl
@[simp] theorem reset_statusFcause : State.reset.statusFcause = 0 := rfl
@[simp] theorem reset_statusDecValid : State.reset.statusDecValid = false := rfl
@[simp] theorem reset_encIn : State.reset.encIn = 0 := rfl
@[simp] theorem reset_encCrc : State.reset.encCrc = 0 := rfl
@[simp] theorem reset_txCount : State.reset.txCount = 0 := rfl
@[simp] theorem reset_rxCount : State.reset.rxCount = 0 := rfl
@[simp] theorem reset_decLen : State.reset.decLen = 0 := rfl
@[simp] theorem reset_decFields : State.reset.decFields = 0 := rfl
@[simp] theorem reset_crcExp : State.reset.crcExp = 0 := rfl
@[simp] theorem reset_crcAct : State.reset.crcAct = 0 := rfl
@[simp] theorem reset_crcAcc : State.reset.crcAcc = 0xFFFFFFFF := rfl
@[simp] theorem reset_crcDin : State.reset.crcDin = 0 := rfl
@[simp] theorem reset_crcCmp : State.reset.crcCmp = 0 := rfl
@[simp] theorem reset_txbuf : State.reset.txbuf = Vector.replicate 24 0 := rfl
@[simp] theorem reset_rxbuf : State.reset.rxbuf = Vector.ofFn fun i => Config.rxbufDraw 0 i.val := rfl
@[simp] theorem reset_pbuf : State.reset.pbuf = Vector.replicate 255 0 := rfl
@[simp] theorem reset_hostFaults : State.reset.hostFaults = [] := rfl
@[simp] theorem reset_readData : State.reset.readData = none := rfl
@[simp] theorem reset_hostQueue : State.reset.hostQueue = [] := rfl
@[simp] theorem reset_resetCount : State.reset.resetCount = 0 := rfl

end reset

section storeInput
variable (s : State) (v : Word)

@[simp] theorem storeInput_encIn : storeInput .encIn v s = { s with encIn := v.extractLsb' 0 24 } := rfl
@[simp] theorem storeInput_rxCount : storeInput .rxCount v s = { s with rxCount := v.extractLsb' 0 16 } := rfl
@[simp] theorem storeInput_crcDin : storeInput .crcDin v s = { s with crcDin := v.extractLsb' 0 8 } := rfl
@[simp] theorem storeInput_crcCmp : storeInput .crcCmp v s = { s with crcCmp := v } := rfl
@[simp] theorem storeInput_rxbuf (i : Fin 528) :
    storeInput (.rxbuf i) v s = { s with rxbuf := s.rxbuf.set i (v.extractLsb' 0 8) } := rfl

end storeInput

end Sys2Proof.Machine
end

