-- ==== Sys2Proof/Laws/Ops.lean ====
section
/-!
SUPPORT. What each shared operation can do, said once.
-/

namespace Sys2Proof.Machine

/-! ### Buffers and addresses -/

@[simp] theorem fillBuffer_getElem (n : Nat) (bytes : List Byte) (i : Nat) (h : i < n) :
    (fillBuffer n bytes)[i] = bytes.getD i 0 := by
  show ((bytes ++ List.replicate n 0).take n)[i]'_ = _
  by_cases hb : i < bytes.length
  · simp [List.getElem_append_left, hb, List.getD_eq_getElem?_getD]
  · simp [List.getElem_append_right, Nat.le_of_not_lt hb, List.getD_eq_getElem?_getD]

theorem fillBuffer_eq_ofFn (n : Nat) (bytes : List Byte) :
    fillBuffer n bytes = Vector.ofFn fun i => bytes.getD i.val 0 := by
  ext i h
  simp

@[simp] theorem packFields_fillBuffer (bytes : List Byte) :
    packFields (fillBuffer 255 bytes) = bytes.getD 0 0 ++ bytes.getD 1 0 ++ bytes.getD 2 0 := by
  simp [packFields]

theorem misaligned_iff (addr : HAddr) : misaligned addr = true ↔ addr.toNat % 4 ≠ 0 := by
  have h : addr.extractLsb' 0 2 = 0 ↔ addr.toNat % 4 = 0 := by
    rw [← BitVec.toNat_inj]
    simp
  rw [misaligned, bne_iff_ne]
  exact not_congr h

theorem bufferIndex_eq_some_iff (base n addr : Nat) (hb : base % 4 = 0) (i : Fin n) :
    bufferIndex base n addr = some i ↔ addr = base + 4 * i.val := by
  unfold bufferIndex
  split
  · rename_i h
    rw [Option.some.injEq, Fin.ext_iff]
    constructor <;> intro e
    · have : (addr - base) / 4 = i.val := e
      omega
    · show (addr - base) / 4 = i.val
      omega
  · rename_i h
    have := i.isLt
    constructor
    · intro e; simp at e
    · intro e; omega

theorem bufferIndex_eq_none_iff (base n addr : Nat) :
    bufferIndex base n addr = none ↔ ¬ (base ≤ addr ∧ addr < base + 4 * n ∧ addr % 4 = 0) := by
  unfold bufferIndex
  split <;> simp_all

/-! ### The host's events -/

@[simp] theorem takeEvent_cons (s : State) (e : HostEvent) (rest : List HostEvent) :
    takeEvent { s with hostQueue := e :: rest } = some (e, { s with hostQueue := rest }) := rfl

theorem takeEvent_cases (s : State) :
    (s.hostQueue = [] ∧ takeEvent s = none) ∨
      ∃ e rest, s.hostQueue = e :: rest ∧ takeEvent s = some (e, { s with hostQueue := rest }) := by
  unfold takeEvent
  split <;> simp_all

/-! ### Commands and host accesses -/

/-- Command dispatch runs the meaning of the command whose word was written, or ends in ILLEGAL_COMMAND. -/
theorem runCommand_cases (v : Word) (s : State) :
    (v = 0 ∧ runCommand v s = execNop s) ∨ (v = 1 ∧ runCommand v s = execEncode s) ∨
      (v = 2 ∧ runCommand v s = execDecode s) ∨ (v = 3 ∧ runCommand v s = execCrcInit s) ∨
      (v = 4 ∧ runCommand v s = execCrcByte s) ∨ (v = 5 ∧ runCommand v s = execCrcCheck s) ∨
      (v = 6 ∧ runCommand v s = execClear s) ∨
      (6 < v.toNat ∧ runCommand v s = .next (setOutcome .illegalCommand .none s)) := by
  rcases decodeCommand_cases v with ⟨c, rfl, -⟩ | ⟨h, e, he⟩
  · cases c <;> simp [Command.word] <;> rfl
  · simp [runCommand, he, runIllegalCommand, h]

/-- A host write records a fault, runs a command or stores into an input. -/
theorem execHostWrite_cases (addr : HAddr) (v : Word) (s : State) :
    ((misaligned addr = true ∨ locate addr = none ∨ ∃ l, locate addr = some l ∧ l.writeEffect = .readOnly) ∧
        execHostWrite addr v s = .next (raiseHostAccessFault .write addr s)) ∨
      (misaligned addr = false ∧ locate addr = some .cmd ∧ execHostWrite addr v s = runCommand v s) ∨
      ∃ l input, misaligned addr = false ∧ locate addr = some l ∧ l.writeEffect = .stores input ∧
        execHostWrite addr v s = .next (storeInput input v s) := by
  unfold execHostWrite
  cases hm : misaligned addr
  · cases hl : locate addr with
    | none => simp
    | some l => cases l <;> simp [Location.writeEffect]
  · simp

/-- A host read records a fault and returns no data, or returns the word of a location. -/
theorem execHostRead_cases (addr : HAddr) (s : State) :
    ((misaligned addr = true ∨ locate addr = none) ∧
        execHostRead addr s = .next (returnData none (raiseHostAccessFault .read addr s))) ∨
      ∃ l, misaligned addr = false ∧ locate addr = some l ∧
        execHostRead addr s = .next (returnData (some (readLocation l s)) s) := by
  unfold execHostRead
  cases hm : misaligned addr
  · cases hl : locate addr <;> simp
  · simp

/-- DECODE answers BAD_COUNT, or records what the candidate is, over cleared outputs. -/
theorem execDecode_cases (s : State) :
    (528 < s.rxCount.toNat ∧
        execDecode s = .next (setOutcome .badCount .none (clearDecodeOutputs s))) ∨
      (s.rxCount.toNat ≤ 528 ∧
        execDecode s = .next (recordFrameOutcome (judgeFrame (receivedChars s)) (clearDecodeOutputs s))) := by
  unfold execDecode
  by_cases h : Config.rxCap < s.rxCount.toNat
  · exact .inl ⟨h, if_pos h⟩
  · exact .inr ⟨Nat.le_of_not_lt h, if_neg h⟩

end Sys2Proof.Machine
end

