-- ==== Sys2Proof/Laws/PerInstr.lean ====
section
/-!
SUPPORT. The rows of spec/opcode_table.json as match and mask words, and that the encoding of each instruction lies in its row.
-/

namespace Sys2Proof

/-- The match and mask words of a row (spec/opcode_table.json), by format. -/
inductive OpcodeRow where
  | cmdw (value mask : Word)
  | bus (value mask : BusWord)
  deriving DecidableEq, Repr

/-- The row of each instruction. -/
def Instr.row : Instr → OpcodeRow
  | .nop => .cmdw 0x00000000 0xFFFFFFFF
  | .encode => .cmdw 0x00000001 0xFFFFFFFF
  | .decode => .cmdw 0x00000002 0xFFFFFFFF
  | .crcInit => .cmdw 0x00000003 0xFFFFFFFF
  | .crcByte => .cmdw 0x00000004 0xFFFFFFFF
  | .crcCheck => .cmdw 0x00000005 0xFFFFFFFF
  | .clear => .cmdw 0x00000006 0xFFFFFFFF
  | .hostRead _ => .bus 0x0000000000000 0x1000000000000
  | .hostWrite _ _ => .bus 0x1000000000000 0x1000000000000

/-- A word of the row's format whose masked bits are the row's. -/
def OpcodeRow.holds : OpcodeRow → RawWord → Prop
  | .cmdw value mask, .cmdw v => v &&& mask = value
  | .bus value mask, .bus t => t &&& mask = value
  | _, _ => False

/-- An instruction's encoding lies in its row of the opcode table. -/
def Laws.InOwnRow.Statement (i : Instr) : Prop := i.row.holds (encode i)

theorem Laws.InOwnRow.nop : Laws.InOwnRow.Statement .nop := rfl
theorem Laws.InOwnRow.encode : Laws.InOwnRow.Statement .encode := rfl
theorem Laws.InOwnRow.decode : Laws.InOwnRow.Statement .decode := rfl
theorem Laws.InOwnRow.crcInit : Laws.InOwnRow.Statement .crcInit := rfl
theorem Laws.InOwnRow.crcByte : Laws.InOwnRow.Statement .crcByte := rfl
theorem Laws.InOwnRow.crcCheck : Laws.InOwnRow.Statement .crcCheck := rfl
theorem Laws.InOwnRow.clear : Laws.InOwnRow.Statement .clear := rfl

/-- The bits of a transaction under the mask of its rows are its WE alone. -/
theorem busWord_masked (we : BitVec 1) (addr : HAddr) (data : Word) :
    busWord we addr data &&& 0x1000000000000 = busWord we 0 0 &&& 0x1000000000000 := by
  have mask : ∀ i, i < 48 → (0x1000000000000 : BusWord).getLsbD i = false := by decide
  apply BitVec.eq_of_getLsbD_eq
  intro i hi
  by_cases h : i < 48
  · simp only [BitVec.getLsbD_and, mask i h, Bool.and_false]
  · simp only [BitVec.getLsbD_and, busWord_getLsbD, h, if_false, show ¬ i < 32 by omega]

theorem Laws.InOwnRow.hostRead (addr : HAddr) : Laws.InOwnRow.Statement (.hostRead addr) := by
  show busWord 0 addr 0 &&& 0x1000000000000 = 0x0000000000000
  rw [busWord_masked]; rfl

theorem Laws.InOwnRow.hostWrite (addr : HAddr) (data : Word) :
    Laws.InOwnRow.Statement (.hostWrite addr data) := by
  show busWord 1 addr data &&& 0x1000000000000 = 0x1000000000000
  rw [busWord_masked]; rfl

end Sys2Proof
end

