-- ==== Sys2Proof/Laws/Run.lean ====
section
/-!
SUPPORT. What one step can do.
-/

namespace Sys2Proof.Machine

/-- A step idles, resets, runs the instruction a word encodes, or ends an illegal command word in ILLEGAL_COMMAND. -/
theorem step_cases (s : State) :
    (s.hostQueue = [] ∧ step s = .next s) ∨
      (∃ rest, s.hostQueue = .reset :: rest ∧ step s = .next (resetBlock { s with hostQueue := rest })) ∨
      (∃ w rest i, s.hostQueue = .present w :: rest ∧ decode w = .ok i ∧
        step s = exec i { s with hostQueue := rest }) ∨
      ∃ w rest e, s.hostQueue = .present w :: rest ∧ decode w = .error e ∧
        step s = .next (setOutcome .illegalCommand .none { s with hostQueue := rest }) := by
  rcases takeEvent_cases s with ⟨hq, ht⟩ | ⟨e, rest, hq, ht⟩
  · exact .inl ⟨hq, by simp [step, ht]⟩
  · cases e with
    | reset => exact .inr (.inl ⟨rest, hq, by simp [step, ht]⟩)
    | present w =>
      cases hd : decode w with
      | ok i => exact .inr (.inr (.inl ⟨w, rest, i, hq, hd, by simp [step, ht, runWord, hd]⟩))
      | error e =>
        exact .inr (.inr (.inr ⟨w, rest, e, hq, hd, by simp [step, ht, runWord, hd, runIllegalCommand]⟩))

end Sys2Proof.Machine
end

