-- ==== Sys2Proof/Tests/Slice0.lean ====
section
/-!
SUPPORT. The model's own tests, their expected values from spec/95_test_vectors.md and the spec's encodings, and for each
statement with hypotheses a concrete case that meets them.
-/

namespace Sys2Proof.Tests

-- One theorem at a time: side by side, their checks take a thread each.
set_option Elab.async false

open Sys2Proof.Machine

/-! ### Small states and results -/

/-- The state after reset with RXBUF[0..n) = `text`, the rest of it 0, and RX_COUNT = `n`. -/
def receivedBytes (text : List Byte) : State :=
  { State.reset with rxbuf := fillBuffer 528 text, rxCount := BitVec.ofNat 16 text.length }

/-- The same for a text. -/
def received (text : String) : State := receivedBytes (asciiBytes text)

/-- The state of an outcome, a given one where it is no next state. -/
def nextOr (s : State) : Host.Outcome State Fault Refusal → State
  | .next t => t
  | _ => s

/-- The state after an instruction. -/
def after (i : Instr) (s : State) : State := nextOr s (exec i s)

theorem decode_answers (s : State) : exec .decode s = .next (after .decode s) := by
  rcases execDecode_cases s with ⟨_, h⟩ | ⟨_, h⟩
  · simp [after, exec, h, nextOr]
  · simp [after, exec, h, nextOr]

/-- The frame of V43. -/
def v43 : String := "AA5503000C03CAFDC7A455AA"

/-- A state that has run ENCODE of 00 0C 03 and DECODE of its frame (V60, V43). -/
def busy : State := after .decode (after .encode { received v43 with encIn := 0x000C03 })

/-! ### Well-formedness: each check refuses an ill-formed word -/

theorem test_wellFormed_accepts_clear : (RawWord.cmdw 0x00000006).wellFormed = true := by decide
theorem test_wellFormed_refuses_code_07 : (RawWord.cmdw 0x00000007).wellFormed = false := by decide
theorem test_wellFormed_refuses_code_FF : (RawWord.cmdw 0x000000FF).wellFormed = false := by decide
theorem test_wellFormed_refuses_reserved_bit_8 : (RawWord.cmdw 0x00000101).wellFormed = false := by decide
theorem test_wellFormed_refuses_reserved_bit_31 : (RawWord.cmdw 0x80000002).wellFormed = false := by decide

/-! ### Decoding of words written out from R81, R82 and R84 -/

theorem test_decode_NOP :
    decodeTableWord 32 0b00000000_00000000_00000000_00000000 = some .nop := by decide
theorem test_decode_ENCODE :
    decodeTableWord 32 0b00000000_00000000_00000000_00000001 = some .encode := by decide
theorem test_decode_DECODE :
    decodeTableWord 32 0b00000000_00000000_00000000_00000010 = some .decode := by decide
theorem test_decode_CRC_INIT :
    decodeTableWord 32 0b00000000_00000000_00000000_00000011 = some .crcInit := by decide
theorem test_decode_CRC_BYTE :
    decodeTableWord 32 0b00000000_00000000_00000000_00000100 = some .crcByte := by decide
theorem test_decode_CRC_CHECK :
    decodeTableWord 32 0b00000000_00000000_00000000_00000101 = some .crcCheck := by decide
theorem test_decode_CLEAR :
    decodeTableWord 32 0b00000000_00000000_00000000_00000110 = some .clear := by decide
/-- WE = 0, ADDR = 0x002C, DATA ignored. -/
theorem test_decode_HOST_READ :
    decodeTableWord 56 0b0_0000000000101100_11111111111111110000000000000001 = some (.hostRead 0x002C) := by
  decide
/-- WE = 1, ADDR = 0x0008, DATA = 0x00000C03 (program P1, line 1). -/
theorem test_decode_HOST_WRITE :
    decodeTableWord 56 0b1_0000000000001000_00000000000000000000110000000011 =
      some (.hostWrite 0x0008 0x00000C03) := by
  decide
/-- The two ways of R83, by name. -/
theorem test_decode_illegal :
    decode (.cmdw 0x00000007) = .error (.undefinedCode 0x00000007) ∧
      decode (.cmdw 0x80000002) = .error (.reservedBitsSet 0x80000002) := by
  exact ⟨by rfl, by rfl⟩

/-! ### The helper functions -/

/-- V1 and V16. -/
theorem test_crc32 : crc32 [0x00, 0x0C, 0x03] = 0xCAFDC7A4 ∧ crc32 (asciiBytes "123456789") = 0xCBF43926 := by
  decide +kernel
/-- V26, V27, V29a, V29b. -/
theorem test_crcStep :
    crcStep 0 0x01 = 0x77073096 ∧ crcStep 0 0x80 = 0xEDB88320 ∧ crcStep 0xFFFFFFFF 0x00 = 0x2DFD1072 ∧
      crcStep 0xFFFFFFFF 0xFF = 0x00FFFFFF := by
  decide +kernel
/-- The examples of R90. -/
theorem test_hex : hex2 0x0C = asciiBytes "0C" ∧ hex8 0xCAFDC7A4 = asciiBytes "CAFDC7A4" := by decide +kernel
/-- Lines 1 and 2 of program P5, `enc 0x01, 0x3C, 0x00`. -/
theorem test_expand_enc :
    (Pseudo.enc 0x01 0x3C 0x00).expand = [.wr 0x0008 0x00013C00, .wr 0x0000 0x00000001] := by
  decide +kernel

/-! ### One step of each instruction -/

/-- V91. -/
theorem test_NOP_keeps_status :
    statusWord (after .nop (after .decode (received "AA5503000C03CAFDC7A555AA"))) = 0x00000002 := by
  decide +kernel
/-- V60. -/
theorem test_ENCODE_V60 :
    let t := after .encode { State.reset with encIn := 0x000C03 }
    (t.txbuf.toList, t.txCount, t.encCrc, statusWord t) = (asciiBytes v43, 24, 0xCAFDC7A4, 0) := by
  decide +kernel
/-- V71: straight after reset. -/
theorem test_ENCODE_V71 :
    (after .encode State.reset).txbuf.toList = asciiBytes "AA5503000000FF41D91255AA" := by
  decide +kernel
/-- V43 and V46. -/
theorem test_DECODE_accepts :
    let t := after .decode (received v43)
    let u := after .decode (received "AA55015A59BC576755AA")
    (statusWord t, t.decLen, t.decFields, t.crcExp, t.crcAct) = (0x100, 3, 0x000C03, 0xCAFDC7A4, 0xCAFDC7A4) ∧
      (statusWord u, u.decLen, u.decFields, u.pbuf[0], u.pbuf[1]) = (0x100, 1, 0x5A0000, 0x5A, 0) := by
  decide +kernel
/-- V31, V38, V39b, V40a, V41b, V42a, V42c, V42d, V42f, V44: one text for each step of R140, and both cases of letters. -/
theorem test_DECODE_steps :
    ["AA5", "AA550", "AA55xx55AA", "AA55AA", "AA5503000C03CAFDC7A4055AA", "AA5503000G03CAFDC7A455AA",
        "AA5503000C03CAFDC7AZ55AA", "AA5503000C03CAFDC7A555AA", "AA5503000C03cafdc7a455AA",
        "AA5503000c03CAFDC7A455AA"].map (fun text => judgeFrame (asciiBytes text)) =
      [.framingError .header, .framingError .footer, .framingError .lenNotHex, .framingError .truncated,
        .framingError .overlong, .framingError .payloadNotHex, .framingError .crcFieldNotHex,
        .checksumMismatch 0xCAFDC7A4 0xCAFDC7A5, .checksumMismatch 0xCAFDC7A4 0xCAFDC7A4,
        .accepted 3 [0x00, 0x0C, 0x03] 0xCAFDC7A4 0xCAFDC7A4] := by
  decide +kernel
/-- The example of R115. -/
theorem test_CRC_INIT :
    let t := after .crcInit { State.reset with crcAcc := 0x2DFD1072, statusResult := 2 }
    (t.crcAcc, crcOut t, statusWord t) = (0xFFFFFFFF, 0x00000000, 0) := by
  decide
/-- V29d, the last byte of program P3. -/
theorem test_CRC_BYTE :
    let t := after .crcByte { State.reset with crcAcc := 0xB790A12B, crcDin := 0x03 }
    (t.crcAcc, crcOut t, t.crcDin) = (0x3502385B, 0xCAFDC7A4, 0x03) := by
  decide +kernel
/-- Program P3, line 22. -/
theorem test_CRC_CHECK :
    let t := after .crcCheck { State.reset with crcAcc := 0x3502385B, crcCmp := 0xCAFDC7A5 }
    (statusWord t, t.crcExp, t.crcAct, t.crcAcc) = (0x02, 0xCAFDC7A4, 0xCAFDC7A5, 0x3502385B) := by
  decide +kernel
/-- V92. -/
theorem test_CLEAR_V92 :
    let t := after .clear busy
    (statusWord t, t.txCount, t.encCrc, t.decLen, t.decFields, t.crcExp, t.crcAct, t.crcAcc) =
        (0, 0, 0, 0, 0, 0, 0, 0xFFFFFFFF) ∧
      (t.encIn, t.rxCount, t.rxbuf[23], t.txbuf[0], t.pbuf[2]) = (0x000C03, 24, 0x41, 0, 0) := by
  decide +kernel
/-- V111, and V106 with what it records. -/
theorem test_HOST_READ :
    (after (.hostRead 0x002C) State.reset).readData = some 0 ∧
      (after (.hostRead 0x0006) State.reset).hostFaults = [⟨.read, 0x0006⟩] := by
  decide +kernel
/-- V108, V95 and V98. -/
theorem test_HOST_WRITE :
    (after (.hostWrite 0x1000 0x141) State.reset).rxbuf[0] = 0x41 ∧
      (let t := after (.hostWrite 0x0000 0x101) busy
       (statusWord t, t.hostFaults, t.txCount) = (0x103, [], 24)) ∧
      (after (.hostWrite 0x0004 0) State.reset).hostFaults = [⟨.write, 0x0004⟩] := by
  decide +kernel

/-! ### The hypotheses of the statements can be met -/

theorem witness_DecodeThenEncode :
    decode (.cmdw 0x00000000) = .ok .nop ∧ decode (.cmdw 0x00000006) = .ok .clear := by
  exact ⟨by rfl, by rfl⟩

/-- The first word above 6 and the last word of all. -/
theorem witness_CommandMap : 6 < (0x00000007 : Word).toNat ∧ 6 < (0xFFFFFFFF : Word).toNat := by decide
theorem witness_CmdWriteDispatch : 6 < (0x00000007 : Word).toNat ∧ 6 < (0x80000002 : Word).toNat := by decide

/-- V93, V94, V95 and V96. -/
theorem witness_IllegalCommandOutcome :
    0x07 ≤ (0x00000007 : Word).extractLsb' 0 8 ∧ 0x07 ≤ (0x000000FF : Word).extractLsb' 0 8 ∧
      (0x00000101 : Word).extractLsb' 8 24 ≠ 0 ∧ (0x80000002 : Word).extractLsb' 8 24 ≠ 0 := by
  decide

theorem witness_StepRunsDecodedWord :
    (Instr.clear.wellFormed = true ∧ decode (.cmdw 0x00000006) = .ok .clear) ∧
      (Instr.hostWrite 0x183C 0xFFFFFFFF).wellFormed = true ∧
      decode (.bus 0x1183CFFFFFFFF) = .ok (.hostWrite 0x183C 0xFFFFFFFF) := by
  exact ⟨⟨by rfl, by rfl⟩, by rfl, by rfl⟩

theorem witness_FetchWordRunsFirst :
    decodeTableWord 32 0x00000006 = some .clear ∧ decodeTableWord 56 0x023F800000000 = some (.hostRead 0x23F8) := by
  decide

/-- A state with a frame encoded and a frame decoded. -/
theorem witness_StepKeepsConsistent : busy.Consistent where
  result_legal := by decide +kernel
  cause_iff_framing := by decide +kernel
  encode_outputs := .inr ⟨by decide +kernel, 0x00, 0x0C, 0x03, by decide +kernel, by decide +kernel⟩
  decode_cleared := by decide +kernel
  payload_tail := by decide +kernel
  fields_packed := by decide +kernel

/-- A write of each input meets the hypotheses about the four others; ENCODE meets all five. -/
theorem witness_InputsChangeOnlyByHostWrite :
    (∀ v, Instr.encode ≠ .hostWrite 0x0008 v ∧ Instr.encode ≠ .hostWrite 0x0014 v ∧
        Instr.encode ≠ .hostWrite 0x0030 v ∧ Instr.encode ≠ .hostWrite 0x0034 v) ∧
      (∀ v, Instr.hostWrite 0x0034 1 ≠ .hostWrite 0x0030 v) ∧
      ∀ v, Instr.hostWrite (rxbufAddr 526) 1 ≠ .hostWrite (rxbufAddr 527) v := by
  refine ⟨fun v => ⟨?_, ?_, ?_, ?_⟩, fun v => ?_, fun v h => ?_⟩
  · intro h; cases h
  · intro h; cases h
  · intro h; cases h
  · intro h; cases h
  · intro h; cases h
  · exact absurd (Instr.hostWrite.inj h).1 (by decide)

theorem witness_DecValidRule :
    Instr.encode ≠ .decode ∧ Instr.encode ≠ .clear ∧ Instr.encode ≠ .hostWrite 0x0000 2 ∧
      Instr.encode ≠ .hostWrite 0x0000 6 ∧ Instr.hostWrite 0x0000 7 ≠ .hostWrite 0x0000 6 := by
  decide

theorem witness_StatusIsNeverRead :
    State.reset.agreeButStatus { State.reset with statusResult := 2, statusDecValid := true } ∧
      ∀ a, Instr.crcCheck ≠ .hostRead a := by
  refine ⟨rfl, fun a h => ?_⟩
  cases h

theorem witness_RejectedAccessChangesNoRegister :
    exec (.hostWrite 0x0004 0) State.reset = .next { State.reset with hostFaults := [⟨.write, 0x0004⟩] } ∧
      ([⟨.write, 0x0004⟩] : List HostFault) ≠ State.reset.hostFaults := by
  exact ⟨by rfl, by decide⟩

/-- Misaligned, read-only, and the addresses just past each range. -/
theorem witness_HostWriteEffect :
    (¬ writableAddr 0x0001 ∧ ¬ writableAddr 0x0004 ∧ ¬ writableAddr 0x0038 ∧ ¬ writableAddr 0x0100 ∧
        ¬ writableAddr 0x0FFC ∧ ¬ writableAddr 0x1840 ∧ ¬ writableAddr 0xFFFF) ∧
      decode (.cmdw 0x00000006) = .ok .clear ∧
      decode (.cmdw 0x00000007) = .error (.undefinedCode 0x00000007) := by
  refine ⟨?_, by rfl, by rfl⟩
  unfold writableAddr
  decide

theorem witness_HostReadEffect :
    ¬ mappedAddr 0x0006 ∧ ¬ mappedAddr 0x0038 ∧ ¬ mappedAddr 0x00FC ∧ ¬ mappedAddr 0x0160 ∧
      ¬ mappedAddr 0x1840 ∧ ¬ mappedAddr 0x23FC ∧ ¬ mappedAddr 0xFFFC := by
  unfold mappedAddr
  decide

theorem witness_WriteThenRead :
    Location.encIn.writeEffect = .stores .encIn ∧ (Location.rxbuf 527).writeEffect = .stores (.rxbuf 527) := by
  decide

theorem witness_LoadRxPlacesText :
    (List.replicate 528 (0x41 : Byte)).length ≤ 528 ∧ (527 : Nat) ≤ (527 : Fin 528).val := by
  decide +kernel

theorem witness_CrcDetectsOneByte : (0x00 : Byte) ≠ 0x01 := by decide

theorem witness_CrcByteEffect :
    crcShifts 0 (State.reset.crcAcc ^^^ State.reset.crcDin.setWidth 32) =
        State.reset.crcAcc ^^^ State.reset.crcDin.setWidth 32 ∧
      ∀ k, k < 8 → crcShifts (k + 1) 0xFFFFFFFF =
        if (crcShifts k 0xFFFFFFFF).getLsbD 0 then (crcShifts k 0xFFFFFFFF >>> 1) ^^^ 0xEDB88320
        else crcShifts k 0xFFFFFFFF >>> 1 := by
  decide +kernel

/-- Reset, then a CRC_BYTE, an ENCODE and a read. -/
theorem witness_CrcEngineComputesCrc32 :
    restartsCrc .reset = true ∧ restartsCrc (.present (.cmdw 0x03)) = true ∧
      ∀ x ∈ [HostEvent.present (.cmdw 0x04), .present (.cmdw 0x01), .present (encode (.hostRead 0x002C))],
        restartsCrc x = false := by
  decide +kernel

/-- After the reset nothing is fed yet; with a CRC_BYTE next, and with no event at all. -/
theorem witness_CrcEngineStepFeedsOneByte :
    let s := { State.reset with hostQueue := [.present (.cmdw 0x04)] }
    (crcOut s = crc32 [] ∧ ∀ e ∈ s.hostQueue.head?, restartsCrc e = false) ∧
      crcOut State.reset = crc32 [] ∧ ∀ e ∈ State.reset.hostQueue.head?, restartsCrc e = false := by
  decide +kernel

theorem witness_FrameCommandsIgnoreCrcEngine : Instr.decode = .encode ∨ Instr.decode = .decode := by decide

theorem witness_EncodeWritesFrame : (0xCAFDC7A4 : Word) = crc32 [0x00, 0x0C, 0x03] := by decide +kernel

/-- RXBUF holds the 24 characters that ENCODE of 00 0C 03 writes. -/
theorem witness_EncodeDecodeRoundTrip :
    (received v43).rxCount = 24 ∧
      ∀ i : Fin 24, (received v43).rxbuf[i.val] =
        (after .encode { State.reset with encIn := (0x00 : Byte) ++ (0x0C : Byte) ++ (0x03 : Byte) }).txbuf[i] := by
  decide +kernel

theorem witness_DecodeBadCount :
    528 < ({ State.reset with rxCount := 529 } : State).rxCount.toNat ∧
      528 < ({ State.reset with rxCount := 0xFFFF } : State).rxCount.toNat := by
  decide

theorem candidate_receivedBytes (text : List Byte) (h : text.length ≤ 528) : (receivedBytes text).candidate text := by
  refine ⟨?_, ?_⟩
  · show (BitVec.ofNat 16 text.length).toNat = _
    rw [BitVec.toNat_ofNat]
    omega
  · rw [List.prefix_iff_eq_take]
    apply List.ext_getElem
    · simp [receivedBytes, h]
    · intro i h1 h2
      simp [receivedBytes, h1]

/-- Header missing (no character at all; in lower case), footer missing, LEN not hex. -/
theorem witness_DecodeMarkerChecks :
    ((receivedBytes []).candidate [] ∧ ¬ headerMarker <+: ([] : List Byte)) ∧
      ¬ headerMarker <+: asciiBytes "aa5503000C03CAFDC7A455AA" ∧
      (headerMarker <+: asciiBytes "AA55" ∧ ¬ footerMarker <:+ asciiBytes "AA55") ∧
      (headerMarker <+: asciiBytes "AA55xx55AA" ∧ footerMarker <:+ asciiBytes "AA55xx55AA" ∧
        ¬ (isHex (charAt (asciiBytes "AA55xx55AA") 4) = true ∧
          isHex (charAt (asciiBytes "AA55xx55AA") 5) = true)) := by
  refine ⟨⟨candidate_receivedBytes [] (by decide), by decide⟩, ?_⟩
  decide +kernel

/-- One character too few and one too many for LEN = 3, on candidates that pass S1 to S3. -/
theorem witness_DecodeLengthChecks :
    ["AA5503000C03CAFDC7A55AA", "AA5503000C03CAFDC7A4055AA"].all (fun c =>
        decide (headerMarker <+: asciiBytes c ∧ footerMarker <:+ asciiBytes c ∧
          isHex (charAt (asciiBytes c) 4) = true ∧ isHex (charAt (asciiBytes c) 5) = true)) = true ∧
      (received "AA5503000C03CAFDC7A55AA").candidate (asciiBytes "AA5503000C03CAFDC7A55AA") ∧
      (received "AA5503000C03CAFDC7A4055AA").candidate (asciiBytes "AA5503000C03CAFDC7A4055AA") ∧
      (asciiBytes "AA5503000C03CAFDC7A55AA").length < 18 + 2 * 3 ∧
      18 + 2 * 3 < (asciiBytes "AA5503000C03CAFDC7A4055AA").length := by
  exact ⟨by decide +kernel, candidate_receivedBytes _ (by decide +kernel),
    candidate_receivedBytes _ (by decide +kernel), by decide +kernel, by decide +kernel⟩

/-- V1's frame with this payload and these CRC characters. -/
def framed (pay crc : String) : List Byte :=
  headerMarker ++ [0x30, 0x33] ++ asciiBytes pay ++ asciiBytes crc ++ footerMarker

/-- A payload character that is no hex digit, and a CRC character that is none. -/
theorem witness_DecodeHexFieldChecks :
    ((receivedBytes (framed "000G03" "CAFDC7A4")).candidate (framed "000G03" "CAFDC7A4") ∧
        (receivedBytes (framed "000C03" "CAFDC7AZ")).candidate (framed "000C03" "CAFDC7AZ")) ∧
      isHex 0x30 = true ∧ isHex 0x33 = true ∧
      ((asciiBytes "000G03").length = 2 * (16 * (hexVal 0x30).toNat + (hexVal 0x33).toNat) ∧
        (asciiBytes "CAFDC7A4").length = 8 ∧ ∃ b ∈ asciiBytes "000G03", isHex b = false) ∧
      (asciiBytes "000C03").length = 2 * (16 * (hexVal 0x30).toNat + (hexVal 0x33).toNat) ∧
      (asciiBytes "CAFDC7AZ").length = 8 ∧ (∀ b ∈ asciiBytes "000C03", isHex b = true) ∧
      ∃ b ∈ asciiBytes "CAFDC7AZ", isHex b = false := by
  refine ⟨⟨candidate_receivedBytes _ (by decide +kernel), candidate_receivedBytes _ (by decide +kernel)⟩, ?_⟩
  decide +kernel

/-- A wrong checksum, the right one in lower case, and the right one. -/
theorem witness_DecodeChecksumStage :
    ((receivedBytes (framed "000c03" "CAFDC7A5")).candidate (framed "000c03" "CAFDC7A5") ∧
        (receivedBytes (framed "000c03" "cafdc7a4")).candidate (framed "000c03" "cafdc7a4") ∧
        (receivedBytes (framed "000c03" "CAFDC7A4")).candidate (framed "000c03" "CAFDC7A4")) ∧
      ([0x30, 0x33] : List Byte).map upperHex = hex2 (BitVec.ofNat 8 ([0x00, 0x0C, 0x03] : List Byte).length) ∧
      (asciiBytes "000c03").map upperHex = payloadText [0x00, 0x0C, 0x03] ∧
      ((asciiBytes "CAFDC7A5").map upperHex = hex8 0xCAFDC7A5 ∧
        asciiBytes "CAFDC7A5" ≠ hex8 (crc32 [0x00, 0x0C, 0x03])) ∧
      ((asciiBytes "cafdc7a4").map upperHex = hex8 0xCAFDC7A4 ∧
        asciiBytes "cafdc7a4" ≠ hex8 (crc32 [0x00, 0x0C, 0x03])) ∧
      (asciiBytes "CAFDC7A4").map upperHex = hex8 0xCAFDC7A4 ∧
      asciiBytes "CAFDC7A4" = hex8 (crc32 [0x00, 0x0C, 0x03]) := by
  refine ⟨⟨candidate_receivedBytes _ (by decide +kernel), candidate_receivedBytes _ (by decide +kernel),
    candidate_receivedBytes _ (by decide +kernel)⟩, ?_⟩
  decide +kernel

/-- The bytes 00 to FE of V48c. -/
def longest : List Byte := (List.range 255).map (BitVec.ofNat 8)

/-- The shortest frame, a frame with a lowercase payload letter, and the longest. -/
theorem witness_DecodeAcceptsExactlyFrames :
    readsAsFrame (asciiBytes "AA55000000000055AA") [] ∧
      readsAsFrame (asciiBytes "AA5503000c03CAFDC7A455AA") [0x00, 0x0C, 0x03] ∧
      (receivedBytes (frameText longest)).candidate (frameText longest) ∧
      readsAsFrame (frameText longest) longest ∧ longest.length = 255 := by
  refine ⟨⟨by decide, asciiBytes "00", [], ?_⟩, ⟨by decide, asciiBytes "03", asciiBytes "000c03", ?_⟩,
    candidate_receivedBytes _ ?_,
    ⟨?_, hex2 (BitVec.ofNat 8 longest.length), payloadText longest, rfl, ?_, ?_⟩, ?_⟩ <;> decide +kernel

theorem witness_DecodeAlwaysEndsInItsResults :
    ({ State.reset with rxCount := 528 } : State).rxCount.toNat ≤ 528 ∧
      528 < ({ State.reset with rxCount := 529 } : State).rxCount.toNat := by
  decide

/-- Two states with RX_COUNT = 23 that differ at RXBUF[23] (V53). -/
theorem witness_DecodeDependsOnCountedCharsOnly (v : Vector Byte 528) :
    let s := { State.reset with rxCount := 23, rxbuf := v }
    let u := { s with rxbuf := v.set 23 0x00 }
    s.rxCount = u.rxCount ∧ ∀ i : Fin 528, i.val < s.rxCount.toNat → s.rxbuf[i] = u.rxbuf[i] := by
  refine ⟨rfl, fun i h => ?_⟩
  have h : i.val < 23 := h
  show v[i.val] = (v.set 23 0x00)[i.val]
  rw [Vector.getElem_set_ne]
  omega

/-- A framing error and a checksum mismatch. -/
theorem witness_DecodeFrameAndNoBestGuess :
    (after .decode (received "AA5")).statusResult ≠ 0 ∧ (after .decode (received "AA5")).statusResult ≠ 2 ∧
      (after .decode (received "AA5503000C03CAFDC7A555AA")).statusResult = 2 := by
  decide +kernel

/-- The first and the last CRC character of V43, the one set to a hex digit, the other to 'Z'. -/
theorem witness_ChecksumFieldCorruptionDetected :
    ∃ t, exec .decode (received v43) = .next t ∧ t.statusResult = 0 ∧
      (6 + 2 * t.decLen.toNat ≤ (12 : Fin 528).val ∧ (12 : Fin 528).val < 14 + 2 * t.decLen.toNat ∧
        (0x63 : Byte) ≠ (received v43).rxbuf[(12 : Fin 528)] ∧ isHex 0x63 = true) ∧
      6 + 2 * t.decLen.toNat ≤ (19 : Fin 528).val ∧ (19 : Fin 528).val < 14 + 2 * t.decLen.toNat ∧
      (0x5A : Byte) ≠ (received v43).rxbuf[(19 : Fin 528)] ∧ isHex 0x5A = false := by
  refine ⟨_, decode_answers _, ?_⟩
  decide +kernel

/-- The first payload character of V43 set to another digit, and its 'C' set to 'c'. -/
theorem witness_PayloadCorruptionDetected :
    ∃ t, exec .decode (received v43) = .next t ∧ t.statusResult = 0 ∧
      (6 ≤ (6 : Fin 528).val ∧ (6 : Fin 528).val < 6 + 2 * t.decLen.toNat ∧ isHex 0x46 = true ∧
        upperHex 0x46 ≠ upperHex (received v43).rxbuf[(6 : Fin 528)]) ∧
      (9 : Fin 528).val < 6 + 2 * t.decLen.toNat ∧ isHex 0x63 = true ∧
      upperHex 0x63 = upperHex (received v43).rxbuf[(9 : Fin 528)] := by
  refine ⟨_, decode_answers _, ?_⟩
  decide +kernel

end Sys2Proof.Tests
end

section
/-!
PROOFS. The commands of the CRC engine (spec/40_crc.md R115 to R117): their words, what each does in the model's named
updates, and the statements O35 to O37.
-/

namespace Sys2Proof.Machine

/-! ### The command words and the CRC loop -/

/-- R82: the word of each command decodes to its instruction. -/
@[simp] theorem decode_command_word (c : Command) : decode (.cmdw c.word) = .ok c.toInstr := by
  simp [decode]

/-- The loop of R110, read as a sequence: a sequence in which each of `n` terms is one turn of the term before it goes from
its first term to the loop's result. -/
theorem crcShifts_eq_of_turns {t : Nat → Word} {n : Nat} (h : ∀ k, k < n → t (k + 1) = crcShift (t k)) :
    crcShifts n (t 0) = t n := by
  induction n generalizing t with
  | zero => rfl
  | succ n ih =>
    calc crcShifts (n + 1) (t 0)
      _ = crcShifts n (t 1) := by rw [crcShifts, h 0 n.succ_pos]
      _ = t (n + 1) := ih (t := fun k => t (k + 1)) fun k hk => h (k + 1) (Nat.succ_lt_succ hk)

/-! ### What each command does -/

theorem exec_crcInit (s : State) : exec .crcInit s = .next (setOk (setCrcAcc 0xFFFFFFFF s)) := rfl

theorem exec_crcByte (s : State) :
    exec .crcByte s = .next (setOk (setCrcAcc (crcStep s.crcAcc s.crcDin) s)) := rfl

/-- CRC_CHECK stores both sides whatever the comparison finds; the comparison decides RESULT alone. -/
theorem exec_crcCheck (s : State) :
    exec .crcCheck s = .next
      (setOutcome (if crcOut s = s.crcCmp then .ok else .checksumMismatch) .none
        (writeChecksums (crcOut s) s.crcCmp s)) := by
  show execCrcCheck s = _
  unfold execCrcCheck
  split <;> rfl

theorem code_ok_or_checksumMismatch (p : Prop) [Decidable p] :
    (if p then ResultCode.ok else ResultCode.checksumMismatch).code = if p then 0 else 2 := by
  split <;> rfl

/-! ### The statements -/

/-- Settles O35: the word of CRC_INIT, and its two updates written out. -/
theorem crcInitEffect : Obligations.CrcInitEffect :=
  ⟨decode_command_word .crcInit, exec_crcInit⟩

/-- Settles O36: the eight turns end in the value of the CRC step, which is all that CRC_BYTE puts in CRC_ACC. -/
theorem crcByteEffect : Obligations.CrcByteEffect := by
  refine ⟨decode_command_word .crcByte, fun s t hstart hturns => ?_⟩
  have hstep : crcStep s.crcAcc s.crcDin = t 8 := by
    rw [crcStep, ← hstart]
    exact crcShifts_eq_of_turns hturns
  rw [exec_crcByte, hstep]
  rfl

/-- Settles O37: CRC_EXP is CRC_OUT, and the comparison with CRC_CMP is seen in RESULT alone. -/
theorem crcCheckEffect : Obligations.CrcCheckEffect := by
  refine ⟨decode_command_word .crcCheck, fun s => ?_⟩
  rw [exec_crcCheck, setOutcome, code_ok_or_checksumMismatch]
  rfl

end Sys2Proof.Machine
end

section
/-!
PROOFS. The frame of a payload (spec/30_encoding.md R85 to R91): its hex digits read back, and it is judged to be a frame of
that payload. Then ENCODE (spec/41_frame_encode.md R130, R131), and the statements O40 to O42.
-/

namespace Sys2Proof.Machine

/-! ### Hex digits read back -/

theorem hexChar_mem_uppercase (n : BitVec 4) : hexChar n ∈ asciiBytes "0123456789ABCDEF" := by
  revert n; decide +kernel

@[simp] theorem isHex_hexChar (n : BitVec 4) : isHex (hexChar n) = true := by
  revert n; decide

@[simp] theorem hexVal_hexChar (n : BitVec 4) : hexVal (hexChar n) = n := by
  revert n; decide

/-- R88, R90: the two digits of a byte stand for it. -/
@[simp] theorem hexPair_hexChar (v : Byte) :
    hexPair (hexChar (v.extractLsb' 4 4)) (hexChar (v.extractLsb' 0 4)) = v := by
  rw [hexPair, hexVal_hexChar, hexVal_hexChar]
  exact BitVec.extractLsb'_append_extractLsb'

@[simp] theorem hex2_length (v : Byte) : (hex2 v).length = 2 := rfl

theorem payloadText_cons (v : Byte) (p : List Byte) : payloadText (v :: p) = hex2 v ++ payloadText p := rfl

@[simp] theorem payloadText_length (p : List Byte) : (payloadText p).length = 2 * p.length := by
  induction p with
  | nil => rfl
  | cons v p ih => rw [payloadText_cons, List.length_append, hex2_length, ih, List.length_cons]; omega

/-- R93: the characters of a payload stand for its bytes. -/
@[simp] theorem unhex_payloadText (p : List Byte) : unhex (payloadText p) = p := by
  induction p with
  | nil => rfl
  | cons v p ih =>
    calc unhex (payloadText (v :: p))
      _ = hexPair (hexChar (v.extractLsb' 4 4)) (hexChar (v.extractLsb' 0 4)) :: unhex (payloadText p) := rfl
      _ = v :: p := by rw [hexPair_hexChar, ih]

/-- Reading one more digit of a number, the next lower four bits of `w`. -/
theorem shiftLeft_or_digit (w : Word) (k : Nat) :
    (w >>> (k + 4)) <<< 4 ||| (w.extractLsb' k 4).setWidth 32 = w >>> k := by
  apply BitVec.eq_of_getLsbD_eq
  intro i hi
  by_cases h : i < 4
  · simp [h, hi]
  · simp [h, hi, show k + 4 + (i - 4) = k + i by omega]

/-- R88, R90: the eight digits of a word stand for it. -/
@[simp] theorem hexNumber_hex8 (w : Word) : hexNumber (hex8 w) = w := by
  have htop : (0 : Word) = w >>> 32 := (BitVec.ushiftRight_eq_zero le_rfl).symm
  simp only [hexNumber, hex8, List.foldl_cons, List.foldl_nil, hexVal_hexChar]
  rw [htop, shiftLeft_or_digit w 28, shiftLeft_or_digit w 24, shiftLeft_or_digit w 20, shiftLeft_or_digit w 16,
    shiftLeft_or_digit w 12, shiftLeft_or_digit w 8, shiftLeft_or_digit w 4, shiftLeft_or_digit w 0,
    BitVec.ushiftRight_zero]

@[simp] theorem hex8_length (w : Word) : (hex8 w).length = 8 := rfl

/-- A payload is written in hex digits alone: what holds of each of them holds of every character. -/
theorem forall_mem_payloadText {P : Byte → Prop} (hP : ∀ n, P (hexChar n)) (p : List Byte) :
    ∀ b ∈ payloadText p, P b := by
  simp only [payloadText, List.mem_flatMap, hex2]
  rintro b ⟨v, -, hb⟩
  simp only [List.mem_cons, List.not_mem_nil, or_false] at hb
  rcases hb with rfl | rfl <;> exact hP _

theorem forall_mem_hex8 {P : Byte → Prop} (hP : ∀ n, P (hexChar n)) (w : Word) : ∀ b ∈ hex8 w, P b := by
  simp [hex8, hP]

/-! ### A text laid out as a frame -/

/-- A text with the markers, two LEN characters, and the two fields between them (R85). -/
def frameLayout (h l : Byte) (pay crc : List Byte) : List Byte :=
  headerMarker ++ [h, l] ++ pay ++ crc ++ footerMarker

theorem frameText_eq_frameLayout (p : List Byte) :
    frameText p = frameLayout (hexChar ((BitVec.ofNat 8 p.length : Byte).extractLsb' 4 4))
      (hexChar ((BitVec.ofNat 8 p.length : Byte).extractLsb' 0 4)) (payloadText p) (hex8 (crc32 p)) := rfl

section
variable {h l : Byte} {pay crc : List Byte}

theorem frameLayout_length : (frameLayout h l pay crc).length = 10 + pay.length + crc.length := by
  simp [frameLayout, headerMarker, footerMarker]; omega

theorem slice_append_middle (a b c : List Byte) : slice (a ++ b ++ c) a.length (a.length + b.length) = b := by
  rw [slice, ← List.length_append, List.take_left, List.drop_left]

theorem payloadChars_frameLayout {n : Nat} (hpay : pay.length = 2 * n) :
    payloadChars (frameLayout h l pay crc) n = pay := by
  rw [payloadChars, ← hpay, frameLayout, List.append_assoc _ crc]
  exact slice_append_middle (headerMarker ++ [h, l]) pay (crc ++ footerMarker)

theorem crcChars_frameLayout {n : Nat} (hpay : pay.length = 2 * n) (hcrc : crc.length = 8) :
    crcChars (frameLayout h l pay crc) n = crc := by
  have hstart : (headerMarker ++ [h, l] ++ pay).length = 6 + 2 * n := by
    simp [headerMarker, hpay]; omega
  have hmiddle := slice_append_middle (headerMarker ++ [h, l] ++ pay) crc footerMarker
  rw [hstart, hcrc] at hmiddle
  rw [crcChars, show 14 + 2 * n = 6 + 2 * n + 8 by omega]
  exact hmiddle

/-- S1 to S3 of R140 pass: the body is judged under the LEN of the two characters. -/
theorem judgeFrame_frameLayout (hh : isHex h = true) (hl : isHex l = true) :
    judgeFrame (frameLayout h l pay crc) = judgeBody (frameLayout h l pay crc) (hexPair h l) := by
  have hlen : (frameLayout h l pay crc).length = 10 + pay.length + crc.length := frameLayout_length
  have hheader : (frameLayout h l pay crc).take 4 = headerMarker := rfl
  have hfooter : (frameLayout h l pay crc).drop ((frameLayout h l pay crc).length - 4) = footerMarker := by
    rw [frameLayout, List.length_append]
    exact List.drop_left
  have hfirst : charAt (frameLayout h l pay crc) 4 = h := rfl
  have hsecond : charAt (frameLayout h l pay crc) 5 = l := rfl
  rcases judgeFrame_cases (frameLayout h l pay crc) with
    ⟨hshort | hbad, -⟩ | ⟨-, -, ⟨hbad, -⟩ | ⟨-, ⟨hshort | hbad | hbad, -⟩ | ⟨-, -, -, hjudge⟩⟩⟩
  · omega
  · exact absurd hheader hbad
  · exact absurd hfooter hbad
  · omega
  · exact absurd (hfirst ▸ hh) hbad
  · exact absurd (hsecond ▸ hl) hbad
  · rw [hjudge, hfirst, hsecond]

/-- S4 to S7 of R140 pass: the checksum decides. -/
theorem judgeBody_frameLayout {len : Byte} (hpay : pay.length = 2 * len.toNat) (hcrc : crc.length = 8)
    (hpayHex : ∀ b ∈ pay, isHex b = true) (hcrcHex : ∀ b ∈ crc, isHex b = true) :
    judgeBody (frameLayout h l pay crc) len = judgeChecksum (frameLayout h l pay crc) len := by
  have hlen : (frameLayout h l pay crc).length = 18 + 2 * len.toNat := by
    rw [frameLayout_length, hpay, hcrc]; omega
  have hp := payloadChars_frameLayout (h := h) (l := l) (crc := crc) hpay
  have hc := crcChars_frameLayout (h := h) (l := l) hpay hcrc
  rcases judgeBody_cases (frameLayout h l pay crc) len with
    ⟨hshort, -⟩ | ⟨hlong, -⟩ | ⟨-, ⟨hbad, -⟩ | ⟨-, ⟨hbad, -⟩ | ⟨-, hjudge⟩⟩⟩
  · omega
  · omega
  · exact absurd (List.all_eq_true.2 hpayHex) (hp ▸ hbad)
  · exact absurd (List.all_eq_true.2 hcrcHex) (hc ▸ hbad)
  · exact hjudge

end

/-! ### The frame of a payload -/

@[simp] theorem frameText_length (p : List Byte) : (frameText p).length = 18 + 2 * p.length := by
  rw [frameText_eq_frameLayout, frameLayout_length, payloadText_length, hex8_length]; omega

/-- S8 and S9 of R140 on the frame of a payload: the payload reads back, so its checksum is the one sent. -/
theorem judgeChecksum_frameText {p : List Byte} {len : Byte} (hlen : len.toNat = p.length) :
    judgeChecksum (frameText p) len = .accepted len p (crc32 p) (crc32 p) := by
  have hp : payloadChars (frameText p) len.toNat = payloadText p :=
    payloadChars_frameLayout (by rw [payloadText_length, hlen])
  have hc : crcChars (frameText p) len.toNat = hex8 (crc32 p) :=
    crcChars_frameLayout (by rw [payloadText_length, hlen]) rfl
  rcases judgeChecksum_cases (frameText p) len with ⟨hbad, -⟩ | ⟨-, hjudge⟩
  · exact absurd (by rw [hp, hc, unhex_payloadText]) hbad
  · rw [hjudge, hp, hc, unhex_payloadText, hexNumber_hex8]

/-- R131 for every payload a frame can carry: the frame of `p` is accepted as `p`. -/
theorem judgeFrame_frameText {p : List Byte} (hp : p.length ≤ 255) :
    judgeFrame (frameText p) = .accepted (BitVec.ofNat 8 p.length) p (crc32 p) (crc32 p) := by
  have hlen : (BitVec.ofNat 8 p.length : Byte).toNat = p.length := by
    rw [BitVec.toNat_ofNat]; omega
  calc judgeFrame (frameText p)
    _ = judgeBody (frameText p) (BitVec.ofNat 8 p.length) := by
      rw [frameText_eq_frameLayout, judgeFrame_frameLayout (isHex_hexChar _) (isHex_hexChar _), hexPair_hexChar]
    _ = judgeChecksum (frameText p) (BitVec.ofNat 8 p.length) :=
      judgeBody_frameLayout (by rw [payloadText_length, hlen]) rfl
        (forall_mem_payloadText isHex_hexChar p) (forall_mem_hex8 isHex_hexChar _)
    _ = .accepted (BitVec.ofNat 8 p.length) p (crc32 p) (crc32 p) := judgeChecksum_frameText hlen

/-- R89: a frame is written in uppercase hex digits, its markers included. -/
theorem frameText_uppercase (p : List Byte) : ∀ b ∈ frameText p, b ∈ asciiBytes "0123456789ABCDEF" := by
  have hmarkers : ∀ b ∈ headerMarker ++ footerMarker, b ∈ asciiBytes "0123456789ABCDEF" := by decide +kernel
  have hpay := forall_mem_payloadText hexChar_mem_uppercase p
  have hcrc := forall_mem_hex8 hexChar_mem_uppercase (crc32 p)
  intro b hb
  simp only [frameText, hex2, List.mem_append, List.mem_cons, List.not_mem_nil, or_false] at hb
  rcases hb with (((hb | rfl | rfl) | hb) | hb) | hb
  · exact hmarkers b (List.mem_append_left _ hb)
  · exact hexChar_mem_uppercase _
  · exact hexChar_mem_uppercase _
  · exact hpay b hb
  · exact hcrc b hb
  · exact hmarkers b (List.mem_append_right _ hb)

/-! ### The candidate of DECODE and the operands of ENCODE -/

theorem receivedChars_of_candidate {s : State} {c : List Byte} (h : s.candidate c) : receivedChars s = c := by
  obtain ⟨hcount, hprefix⟩ := h
  rw [receivedChars, hcount]
  exact (List.prefix_iff_eq_take.1 hprefix).symm

/-- DECODE records what its candidate is judged to be; a candidate fits RXBUF, so S0 never stops it. -/
theorem exec_decode_of_candidate {s : State} {c : List Byte} (h : s.candidate c) :
    exec .decode s = .next (recordFrameOutcome (judgeFrame c) (clearDecodeOutputs s)) := by
  have hfits : s.rxCount.toNat ≤ 528 := by
    obtain ⟨hcount, hprefix⟩ := h
    rw [hcount, ← Vector.length_toList (xs := s.rxbuf)]
    exact hprefix.length_le
  rcases execDecode_cases s with ⟨hbig, -⟩ | ⟨-, hrun⟩
  · omega
  · rw [receivedChars_of_candidate h] at hrun
    exact hrun

/-- A text held element by element in RXBUF, with RX_COUNT its length, is DECODE's candidate. -/
theorem candidate_of_getElem {s : State} {text : List Byte} (hfits : text.length ≤ 528)
    (hcount : s.rxCount.toNat = text.length)
    (hchars : ∀ (i : Nat) (hi : i < text.length), s.rxbuf[i] = text[i]) : s.candidate text := by
  refine ⟨hcount, List.prefix_iff_eq_take.2 (List.ext_getElem (by simpa using hfits) fun i hi _ => ?_)⟩
  simp [hchars i hi]

/-- R92: the operand bytes are those packed in ENC_IN. -/
theorem encPayload_of_encIn {s : State} {op reg val : Byte} (h : s.encIn = op ++ reg ++ val) :
    encPayload s = [op, reg, val] := by
  have hop : encOp s = op := by
    rw [encOp, h, BitVec.extractLsb'_append_eq_of_le (by decide)]
    exact BitVec.extractLsb'_append_eq_left
  have hreg : encReg s = reg := by
    rw [encReg, h, BitVec.extractLsb'_append_eq_of_le (by decide)]
    exact BitVec.extractLsb'_append_eq_right
  have hval : encVal s = val := by
    rw [encVal, h]
    exact BitVec.extractLsb'_append_eq_right
  rw [encPayload, hop, hreg, hval]

theorem exec_encode (s : State) :
    exec .encode s = .next
      (setOk (writeEncodeOutputs (frameText (encPayload s)) (crc32 (encPayload s)) s)) := rfl

/-- A buffer filled with as many characters as it has elements holds these and nothing else. -/
theorem fillBuffer_toList {n : Nat} {bytes : List Byte} (h : bytes.length = n) : (fillBuffer n bytes).toList = bytes := by
  subst h
  apply List.ext_getElem
  · simp
  · intro i _ hi
    simp [List.getD_eq_getElem?_getD, hi]

/-- R130: the frame of three bytes, whose LEN is "03". -/
theorem frameText_three_bytes (op reg val : Byte) :
    frameText [op, reg, val] = headerMarker ++ [0x30, 0x33] ++ (hex2 op ++ hex2 reg ++ hex2 val) ++
      hex8 (crc32 [op, reg, val]) ++ footerMarker := by
  have hlen : hex2 3 = [0x30, 0x33] := by decide
  rw [← hlen]
  rfl

/-- R130: ENCODE leaves in TXBUF the one buffer that holds the frame of its operand bytes. -/
theorem exec_encode_of_txbuf (s : State) {op reg val : Byte} {tx : Vector Byte 24}
    (htx : tx.toList = frameText [op, reg, val]) :
    exec .encode { s with encIn := op ++ reg ++ val } = .next
      { s with
        encIn := op ++ reg ++ val, txbuf := tx, txCount := 24, encCrc := crc32 [op, reg, val]
        statusResult := 0, statusFcause := 0 } := by
  have hfill : fillBuffer 24 (frameText [op, reg, val]) = tx := by
    rw [← Vector.toList_inj, fillBuffer_toList (by simp), htx]
  rw [exec_encode, encPayload_of_encIn rfl, writeEncodeOutputs, hfill]
  rfl

/-! ### The statements -/

/-- Settles O40: the 24 characters written out are the frame of the three bytes. -/
theorem encodeWritesFrame : Obligations.EncodeWritesFrame := by
  refine ⟨decode_command_word .encode, ?_⟩
  rintro s op reg val c rfl
  exact exec_encode_of_txbuf s (frameText_three_bytes op reg val).symm

/-- Settles O41: the 24 elements of TXBUF are the 24 characters of a frame, and a frame is uppercase. -/
theorem encodeWritesUppercaseHex : Obligations.EncodeWritesUppercaseHex := by
  refine fun s => ⟨_, exec_encode s, fun i => frameText_uppercase (encPayload s) _ ?_⟩
  have htext : (fillBuffer 24 (frameText (encPayload s))).toList = frameText (encPayload s) :=
    fillBuffer_toList (by simp [encPayload])
  rw [setOk_txbuf, writeEncodeOutputs_txbuf, ← htext, Vector.mem_toList_iff]
  exact Vector.getElem_mem i.isLt

/-- Settles O42: the frame ENCODE wrote is DECODE's candidate, and it is accepted as the payload it was made of. -/
theorem encodeDecodeRoundTrip : Obligations.EncodeDecodeRoundTrip := by
  intro s op reg val
  obtain ⟨tx, htx⟩ : ∃ tx : Vector Byte 24, tx.toList = frameText [op, reg, val] :=
    ⟨_, fillBuffer_toList (by simp)⟩
  refine ⟨_, exec_encode_of_txbuf s htx, fun u hcount hchars => ?_⟩
  have hcandidate : u.candidate (frameText [op, reg, val]) := by
    rw [← htx]
    refine candidate_of_getElem (by simp) (by rw [hcount, Vector.length_toList]; rfl) fun i hi => ?_
    rw [Vector.getElem_toList]
    exact hchars ⟨i, by simpa using hi⟩
  rw [exec_decode_of_candidate hcandidate, judgeFrame_frameText (by simp), recordFrameOutcome, writeDecodedFields,
    packFields_fillBuffer, fillBuffer_eq_ofFn]
  rfl

end Sys2Proof.Machine
end

section
/-!
PROOFS. The CRC of R110 and R111 loses nothing: one turn of the loop is injective, so a step is injective in the register and in
the byte, and payloads that differ in one byte have different checksums.
-/

namespace Sys2Proof.Machine

/-- The polynomial enters by xor, and only its presence depends on bit 0. -/
theorem crcShift_eq_xor (t : Word) : crcShift t = t >>> 1 ^^^ (if t.getLsbD 0 then 0xEDB88320 else 0) := by
  unfold crcShift
  split <;> simp

/-- The top bit of the polynomial is set, so the bit that a turn shifts out stands in the top bit of its result. -/
theorem crcShift_getLsbD_top (t : Word) : (crcShift t).getLsbD 31 = t.getLsbD 0 := by
  unfold crcShift
  split <;> simp_all

theorem crcShift_injective : Function.Injective crcShift := by
  intro t u h
  have hout : t.getLsbD 0 = u.getLsbD 0 := by
    rw [← crcShift_getLsbD_top t, h, crcShift_getLsbD_top]
  have hkept : t >>> 1 = u >>> 1 := by
    rwa [crcShift_eq_xor, crcShift_eq_xor, hout, BitVec.xor_left_inj] at h
  apply BitVec.eq_of_getLsbD_eq
  intro i _
  cases i with
  | zero => exact hout
  | succ i => simpa [Nat.add_comm] using congrArg (·.getLsbD i) hkept

theorem crcShifts_injective (n : Nat) : Function.Injective (crcShifts n) := by
  induction n with
  | zero => exact Function.injective_id
  | succ n ih => exact ih.comp crcShift_injective

theorem crcStep_register_injective (b : Byte) : Function.Injective (crcStep · b) := fun _ _ h =>
  (BitVec.xor_left_inj _).1 (crcShifts_injective 8 h)

theorem crcStep_byte_injective (c : Word) : Function.Injective (crcStep c) := by
  intro x y h
  have hwide : x.setWidth 32 = y.setWidth 32 := (BitVec.xor_right_inj _).1 (crcShifts_injective 8 h)
  simpa using congrArg (BitVec.setWidth 8) hwide

theorem foldl_crcStep_injective (q : List Byte) : Function.Injective (fun c => q.foldl crcStep c) := by
  induction q with
  | nil => exact Function.injective_id
  | cons b q ih => exact ih.comp (crcStep_register_injective b)

/-- R110, R111: payloads that differ in one byte have different checksums. -/
theorem crc32_append_cons_injective (p q : List Byte) : Function.Injective fun x => crc32 (p ++ x :: q) := by
  intro x y h
  have hregister : crcRegister (p ++ x :: q) = crcRegister (p ++ y :: q) := (BitVec.xor_left_inj _).1 h
  rw [crcRegister, crcRegister, List.foldl_append, List.foldl_append] at hregister
  exact crcStep_byte_injective _ (foldl_crcStep_injective q hregister)

end Sys2Proof.Machine
end

section
/-!
PROOFS. What DECODE's checks find of a text (spec/42_frame_decode.md R140): the hex digits of either case (R87, R88), the checks on a
text laid out as a frame, and the texts that are accepted, which are the frames of spec/30_encoding.md R85.
-/

namespace Sys2Proof.Machine

/-! ### Hex digits of either case -/

@[simp] theorem isHex_upperHex (b : Byte) : isHex (upperHex b) = isHex b := by
  revert b; decide +kernel

@[simp] theorem hexVal_upperHex (b : Byte) : hexVal (upperHex b) = hexVal b := by
  revert b; decide +kernel

@[simp] theorem upperHex_hexChar (n : BitVec 4) : upperHex (hexChar n) = hexChar n := by
  revert n; decide

/-- R88, R89: a hex digit of either case is the uppercase digit of its value. -/
theorem upperHex_eq_hexChar {b : Byte} (hb : isHex b = true) : upperHex b = hexChar (hexVal b) := by
  revert b; decide +kernel

/-- Hex digits differ in case alone exactly when they have one value. -/
theorem hexVal_eq_iff {b c : Byte} (hb : isHex b = true) (hc : isHex c = true) :
    hexVal b = hexVal c ↔ upperHex b = upperHex c := by
  rw [upperHex_eq_hexChar hb, upperHex_eq_hexChar hc]
  exact (Function.LeftInverse.injective hexVal_hexChar).eq_iff.symm

theorem hexPair_toNat (h l : Byte) : (hexPair h l).toNat = 16 * (hexVal h).toNat + (hexVal l).toNat := by
  rw [hexPair, BitVec.toNat_append, ← Nat.shiftLeft_add_eq_or_of_lt (hexVal l).isLt, Nat.shiftLeft_eq, Nat.mul_comm]

theorem hexPair_left_inj {h h' l : Byte} : hexPair h l = hexPair h' l ↔ hexVal h = hexVal h' := by
  rw [← BitVec.toNat_inj, ← BitVec.toNat_inj, hexPair_toNat, hexPair_toNat]
  omega

theorem hexPair_right_inj {h l l' : Byte} : hexPair h l = hexPair h l' ↔ hexVal l = hexVal l' := by
  rw [← BitVec.toNat_inj, ← BitVec.toNat_inj, hexPair_toNat, hexPair_toNat]
  omega

/-- R90: the two digits of a byte are those of its pair, in uppercase. -/
theorem hex2_hexPair {h l : Byte} (hh : isHex h = true) (hl : isHex l = true) :
    hex2 (hexPair h l) = [upperHex h, upperHex l] := by
  have hhigh : (hexPair h l).extractLsb' 4 4 = hexVal h := BitVec.extractLsb'_append_eq_left
  have hlow : (hexPair h l).extractLsb' 0 4 = hexVal l := BitVec.extractLsb'_append_eq_right
  rw [hex2, hhigh, hlow, upperHex_eq_hexChar hh, upperHex_eq_hexChar hl]

theorem unhex_cons_cons (h l : Byte) (rest : List Byte) : unhex (h :: l :: rest) = hexPair h l :: unhex rest := rfl

/-- The case of its letters does not change what a text stands for. -/
@[simp] theorem unhex_map_upperHex (xs : List Byte) : unhex (xs.map upperHex) = unhex xs := by
  induction xs using unhex.induct with
  | case1 h l rest ih => simp [unhex_cons_cons, hexPair, ih]
  | case2 xs hshort =>
    match xs, hshort with
    | [], _ => rfl
    | [_], _ => rfl
    | h :: l :: rest, hshort => exact (hshort h l rest rfl).elim

@[simp] theorem hexNumber_map_upperHex (xs : List Byte) : hexNumber (xs.map upperHex) = hexNumber xs := by
  simp [hexNumber, List.foldl_map]

/-- R93: the digits of a text of whole bytes are those of the bytes it stands for, in uppercase. -/
theorem payloadText_unhex {xs : List Byte} {n : Nat} (hlen : xs.length = 2 * n) (hhex : ∀ b ∈ xs, isHex b = true) :
    (unhex xs).length = n ∧ payloadText (unhex xs) = xs.map upperHex := by
  induction n generalizing xs with
  | zero => obtain rfl := List.length_eq_zero_iff.1 hlen; exact ⟨rfl, rfl⟩
  | succ n ih =>
    match xs, hlen with
    | h :: l :: rest, hlen =>
      simp only [List.forall_mem_cons] at hhex
      obtain ⟨hh, hl, hrest⟩ := hhex
      obtain ⟨hcount, htext⟩ := ih (by simp at hlen; omega) hrest
      rw [unhex_cons_cons, payloadText_cons, hex2_hexPair hh hl, htext]
      exact ⟨by rw [List.length_cons, hcount], rfl⟩

/-- A text spells `p` in hex of either case: it has two hex digits for each byte, and they stand for `p`. -/
theorem map_upperHex_eq_payloadText_iff {xs p : List Byte} :
    xs.map upperHex = payloadText p ↔
      xs.length = 2 * p.length ∧ (∀ b ∈ xs, isHex b = true) ∧ unhex xs = p := by
  constructor
  · intro h
    refine ⟨by simpa using congrArg List.length h, fun b hb => ?_, by rw [← unhex_map_upperHex, h, unhex_payloadText]⟩
    rw [← isHex_upperHex]
    exact forall_mem_payloadText (P := (isHex · = true)) isHex_hexChar p _ (h ▸ List.mem_map_of_mem hb)
  · rintro ⟨hlen, hhex, rfl⟩
    exact (payloadText_unhex hlen hhex).2.symm

/-- The same for a field of eight characters. -/
theorem hex_of_map_upperHex_eq_hex8 {xs : List Byte} {w : Word} (h : xs.map upperHex = hex8 w) :
    xs.length = 8 ∧ (∀ b ∈ xs, isHex b = true) ∧ hexNumber xs = w := by
  refine ⟨by simpa using congrArg List.length h, fun b hb => ?_, by rw [← hexNumber_map_upperHex, h, hexNumber_hex8]⟩
  rw [← isHex_upperHex]
  exact forall_mem_hex8 (P := (isHex · = true)) isHex_hexChar w _ (h ▸ List.mem_map_of_mem hb)

theorem hex8_injective : Function.Injective hex8 := Function.LeftInverse.injective hexNumber_hex8

/-- Changing one digit changes the one byte it is a digit of, and that byte exactly when the digit's value changes. -/
theorem unhex_set {xs : List Byte} {n j : Nat} (hlen : xs.length = 2 * n) (hj : j < xs.length) (b : Byte) :
    ∃ (before : List Byte) (x y : Byte) (behind : List Byte), unhex xs = before ++ x :: behind ∧
      unhex (xs.set j b) = before ++ y :: behind ∧ (y = x ↔ hexVal b = hexVal xs[j]) := by
  induction n generalizing xs j with
  | zero => omega
  | succ n ih =>
    match xs, j, hlen with
    | h :: l :: rest, 0, _ => exact ⟨[], hexPair h l, hexPair b l, unhex rest, rfl, rfl, hexPair_left_inj⟩
    | h :: l :: rest, 1, _ => exact ⟨[], hexPair h l, hexPair h b, unhex rest, rfl, rfl, hexPair_right_inj⟩
    | h :: l :: rest, j + 2, hlen =>
      simp only [List.length_cons] at hlen hj
      obtain ⟨before, x, y, behind, hold, hnew, hvalue⟩ := ih (xs := rest) (j := j) (by omega) (by omega)
      exact ⟨hexPair h l :: before, x, y, behind, congrArg _ hold, congrArg _ hnew, hvalue⟩

/-! ### The markers and LEN: S1 to S3 of R140 -/

/-- A character that is a hex digit lies within the text. -/
theorem lt_length_of_isHex_charAt {c : List Byte} {i : Nat} (h : isHex (charAt c i) = true) : i < c.length := by
  by_contra hi
  have hpast : charAt c i = 0 := by simp [charAt, List.getD_eq_getElem?_getD, Nat.le_of_not_lt hi]
  rw [hpast] at h
  exact absurd h (by decide)

/-- S1 to S3: the first of the three checks that fails, or the body judged under the LEN that was read. -/
theorem judgeFrame_cases_of_markers (c : List Byte) :
    (¬ headerMarker <+: c ∧ judgeFrame c = .framingError .header) ∨
      (headerMarker <+: c ∧ ¬ footerMarker <:+ c ∧ judgeFrame c = .framingError .footer) ∨
      (headerMarker <+: c ∧ footerMarker <:+ c ∧ ¬ (isHex (charAt c 4) = true ∧ isHex (charAt c 5) = true) ∧
        judgeFrame c = .framingError .lenNotHex) ∨
      (headerMarker <+: c ∧ footerMarker <:+ c ∧ isHex (charAt c 4) = true ∧ isHex (charAt c 5) = true ∧
        judgeFrame c = judgeBody c (hexPair (charAt c 4) (charAt c 5))) := by
  have hheader : headerMarker <+: c ↔ c.take 4 = headerMarker := List.prefix_iff_eq_take.trans eq_comm
  have hfooter : footerMarker <:+ c ↔ c.drop (c.length - 4) = footerMarker := List.suffix_iff_eq_drop.trans eq_comm
  rw [hheader, hfooter]
  rcases judgeFrame_cases c with
    ⟨hbad, hj⟩ | ⟨-, hh, ⟨hbad, hj⟩ | ⟨hf, ⟨hbad, hj⟩ | ⟨-, h4, h5, hj⟩⟩⟩
  · refine .inl ⟨fun hh => ?_, hj⟩
    have hlong : 4 ≤ c.length := (hheader.2 hh).length_le
    exact hbad.elim (fun hshort => by omega) (fun hne => hne hh)
  · exact .inr (.inl ⟨hh, hbad, hj⟩)
  · refine .inr (.inr (.inl ⟨hh, hf, ?_, hj⟩))
    rintro ⟨h4, h5⟩
    have hlong := lt_length_of_isHex_charAt h5
    rcases hbad with hshort | hbad | hbad
    · omega
    · exact hbad h4
    · exact hbad h5
  · exact .inr (.inr (.inr ⟨hh, hf, h4, h5, hj⟩))

/-! ### The fields of a text laid out as a frame: S4 to S9 of R140 -/

/-- What a text laid out as a frame has once S1 to S5 of R140 pass: LEN in hex digits, and fields of the lengths it asks for. -/
structure LayoutFits (h l : Byte) (pay crc : List Byte) : Prop where
  lenHigh_hex : isHex h = true
  lenLow_hex : isHex l = true
  pay_length : pay.length = 2 * (hexPair h l).toNat
  crc_length : crc.length = 8

namespace LayoutFits

variable {h l : Byte} {pay crc : List Byte}

theorem set_pay (hfit : LayoutFits h l pay crc) (j : Nat) (b : Byte) : LayoutFits h l (pay.set j b) crc :=
  { hfit with pay_length := by rw [List.length_set, hfit.pay_length] }

theorem set_crc (hfit : LayoutFits h l pay crc) (j : Nat) (b : Byte) : LayoutFits h l pay (crc.set j b) :=
  { hfit with crc_length := by rw [List.length_set, hfit.crc_length] }

/-- S6 to S8 on fields that fit: the hex checks of the two fields in their order, and past them the checksum. -/
theorem judgeFrame_cases (hfit : LayoutFits h l pay crc) :
    ((∃ b ∈ pay, isHex b = false) ∧ judgeFrame (frameLayout h l pay crc) = .framingError .payloadNotHex) ∨
      ((∀ b ∈ pay, isHex b = true) ∧
        (((∃ b ∈ crc, isHex b = false) ∧ judgeFrame (frameLayout h l pay crc) = .framingError .crcFieldNotHex) ∨
          ((∀ b ∈ crc, isHex b = true) ∧
            judgeFrame (frameLayout h l pay crc) = judgeChecksum (frameLayout h l pay crc) (hexPair h l)))) := by
  obtain ⟨hh, hl, hpay, hcrc⟩ := hfit
  have hlen : (frameLayout h l pay crc).length = 18 + 2 * (hexPair h l).toNat := by
    rw [frameLayout_length, hpay, hcrc]; omega
  have hcases := judgeBody_cases (frameLayout h l pay crc) (hexPair h l)
  rw [payloadChars_frameLayout hpay, crcChars_frameLayout hpay hcrc, List.all_eq_true, List.all_eq_true] at hcases
  rw [judgeFrame_frameLayout hh hl]
  rcases hcases with ⟨hshort, -⟩ | ⟨hlong, -⟩ | ⟨-, ⟨hbad, hj⟩ | ⟨hp, ⟨hbad, hj⟩ | ⟨hc, hj⟩⟩⟩
  · omega
  · omega
  · exact .inl ⟨by simpa using hbad, hj⟩
  · exact .inr ⟨hp, .inl ⟨by simpa using hbad, hj⟩⟩
  · exact .inr ⟨hp, .inr ⟨hc, hj⟩⟩

theorem judgeFrame_payloadNotHex (hfit : LayoutFits h l pay crc) (hbad : ∃ b ∈ pay, isHex b = false) :
    judgeFrame (frameLayout h l pay crc) = .framingError .payloadNotHex := by
  obtain ⟨b, hb, hbx⟩ := hbad
  rcases hfit.judgeFrame_cases with ⟨-, hj⟩ | ⟨hp, -⟩
  · exact hj
  · exact absurd (hp b hb) (by simp [hbx])

theorem judgeFrame_crcFieldNotHex (hfit : LayoutFits h l pay crc) (hpay : ∀ b ∈ pay, isHex b = true)
    (hbad : ∃ b ∈ crc, isHex b = false) :
    judgeFrame (frameLayout h l pay crc) = .framingError .crcFieldNotHex := by
  obtain ⟨b, hb, hbx⟩ := hbad
  rcases hfit.judgeFrame_cases with ⟨⟨a, ha, hax⟩, -⟩ | ⟨-, ⟨-, hj⟩ | ⟨hc, -⟩⟩
  · exact absurd (hpay a ha) (by simp [hax])
  · exact hj
  · exact absurd (hc b hb) (by simp [hbx])

theorem judgeFrame_of_hex (hfit : LayoutFits h l pay crc) (hpay : ∀ b ∈ pay, isHex b = true)
    (hcrc : ∀ b ∈ crc, isHex b = true) :
    judgeFrame (frameLayout h l pay crc) = judgeChecksum (frameLayout h l pay crc) (hexPair h l) := by
  rcases hfit.judgeFrame_cases with ⟨⟨a, ha, hax⟩, -⟩ | ⟨-, ⟨⟨b, hb, hbx⟩, -⟩ | ⟨-, hj⟩⟩
  · exact absurd (hpay a ha) (by simp [hax])
  · exact absurd (hcrc b hb) (by simp [hbx])
  · exact hj

/-- S8: hex fields whose checksum characters are not hex8 of the CRC of the payload bytes. -/
theorem judgeFrame_checksumMismatch (hfit : LayoutFits h l pay crc) (hpay : ∀ b ∈ pay, isHex b = true)
    (hcrc : ∀ b ∈ crc, isHex b = true) (hne : crc ≠ hex8 (crc32 (unhex pay))) :
    judgeFrame (frameLayout h l pay crc) = .checksumMismatch (crc32 (unhex pay)) (hexNumber crc) := by
  have hcases := judgeChecksum_cases (frameLayout h l pay crc) (hexPair h l)
  rw [payloadChars_frameLayout hfit.pay_length, crcChars_frameLayout hfit.pay_length hfit.crc_length] at hcases
  rw [hfit.judgeFrame_of_hex hpay hcrc]
  rcases hcases with ⟨-, hj⟩ | ⟨heq, -⟩
  · exact hj
  · exact absurd heq hne

/-- S9: hex fields whose checksum characters are hex8 of the CRC of the payload bytes. -/
theorem judgeFrame_accepted (hfit : LayoutFits h l pay crc) (hpay : ∀ b ∈ pay, isHex b = true)
    (heq : crc = hex8 (crc32 (unhex pay))) :
    judgeFrame (frameLayout h l pay crc) =
      .accepted (hexPair h l) (unhex pay) (crc32 (unhex pay)) (crc32 (unhex pay)) := by
  have hcases := judgeChecksum_cases (frameLayout h l pay crc) (hexPair h l)
  rw [payloadChars_frameLayout hfit.pay_length, crcChars_frameLayout hfit.pay_length hfit.crc_length] at hcases
  rw [hfit.judgeFrame_of_hex hpay (heq ▸ forall_mem_hex8 isHex_hexChar _)]
  rcases hcases with ⟨hne, -⟩ | ⟨-, hj⟩
  · exact absurd heq hne
  · rw [hj, heq, hexNumber_hex8]

end LayoutFits

/-! ### The accepted texts -/

theorem slice_append_drop (c : List Byte) {a b : Nat} (hab : a ≤ b) : slice c a b ++ c.drop b = c.drop a := by
  rw [slice, List.drop_take, ← Nat.add_sub_cancel' hab, ← List.drop_drop, Nat.add_sub_cancel_left]
  exact List.take_append_drop _ _

/-- R85: a text that passes S1 to S5 is laid out as a frame, each field at its place. -/
theorem eq_frameLayout_of_length {c : List Byte} {n : Nat} (hheader : headerMarker <+: c) (hfooter : footerMarker <:+ c)
    (hlen : c.length = 18 + 2 * n) :
    c = frameLayout (charAt c 4) (charAt c 5) (payloadChars c n) (crcChars c n) := by
  have hstart : c.take 4 = headerMarker := (List.prefix_iff_eq_take.1 hheader).symm
  have hend : c.drop (14 + 2 * n) = footerMarker := by
    have hplace : c.length - footerMarker.length = 14 + 2 * n := by
      rw [hlen, footerMarker]
      exact Nat.sub_eq_of_eq_add (by simp; omega)
    rw [← hplace, ← List.suffix_iff_eq_drop.1 hfooter]
  have hchars : c.drop 4 = [charAt c 4, charAt c 5] ++ c.drop 6 := by
    rw [List.drop_eq_getElem_cons (show 4 < c.length by omega), List.drop_eq_getElem_cons (show 5 < c.length by omega)]
    simp [charAt, List.getD_eq_getElem?_getD, show 4 < c.length by omega, show 5 < c.length by omega]
  calc c
    _ = c.take 4 ++ c.drop 4 := (List.take_append_drop 4 c).symm
    _ = headerMarker ++ ([charAt c 4, charAt c 5] ++ (payloadChars c n ++ (crcChars c n ++ footerMarker))) := by
      rw [hstart, hchars, ← hend, crcChars, slice_append_drop c (by omega), payloadChars, slice_append_drop c (by omega)]
    _ = frameLayout (charAt c 4) (charAt c 5) (payloadChars c n) (crcChars c n) := by
      simp only [frameLayout, List.append_assoc]

/-- S9 is reached by a text laid out as a frame alone, with hex fields and the checksum of its payload. -/
theorem layout_of_judgeFrame_accepted {c p : List Byte} {len : Byte} {expected actual : Word}
    (hj : judgeFrame c = .accepted len p expected actual) :
    ∃ (h l : Byte) (pay : List Byte), LayoutFits h l pay (hex8 (crc32 p)) ∧ (∀ b ∈ pay, isHex b = true) ∧
      c = frameLayout h l pay (hex8 (crc32 p)) ∧ unhex pay = p ∧ hexPair h l = len := by
  rcases judgeFrame_cases_of_markers c with
    ⟨-, hf⟩ | ⟨-, -, hf⟩ | ⟨-, -, -, hf⟩ | ⟨hheader, hfooter, h4, h5, hbody⟩
  iterate 3 exact nomatch hf.symm.trans hj
  have hbj := hbody.symm.trans hj
  generalize hlen : hexPair (charAt c 4) (charAt c 5) = n at hbj
  rcases judgeBody_cases c n with ⟨-, hf⟩ | ⟨-, hf⟩ | ⟨hcount, ⟨-, hf⟩ | ⟨hpay, ⟨-, hf⟩ | ⟨-, hsum⟩⟩⟩
  iterate 4 exact nomatch hf.symm.trans hbj
  have hsj := hsum.symm.trans hbj
  rcases judgeChecksum_cases c n with ⟨-, hf⟩ | ⟨hcrc, hacc⟩
  · exact nomatch hf.symm.trans hsj
  obtain ⟨rfl, rfl, -, -⟩ := FrameOutcome.accepted.inj (hacc.symm.trans hsj)
  refine ⟨charAt c 4, charAt c 5, payloadChars c n.toNat, ⟨h4, h5, ?_, rfl⟩, List.all_eq_true.1 hpay, ?_, rfl, hlen⟩
  · rw [hlen, payloadChars, slice, List.length_drop, List.length_take]
    omega
  · rw [← hcrc]
    exact eq_frameLayout_of_length hheader hfooter hcount

/-- R85: LEN holds the length of a payload of at most 255 bytes. -/
theorem toNat_ofNat_length {p : List Byte} (hp : p.length ≤ 255) : (BitVec.ofNat 8 p.length).toNat = p.length := by
  rw [BitVec.toNat_ofNat, Nat.mod_eq_of_lt (by omega)]

/-- The characters of LEN and PAYLOAD that spell the payload `p`, in either case, and checksum characters of the right number make
fields that fit. -/
theorem fields_of_spelling {p lenText pay crc : List Byte} (hp : p.length ≤ 255)
    (hlen : lenText.map upperHex = hex2 (BitVec.ofNat 8 p.length)) (hpay : pay.map upperHex = payloadText p)
    (hcrc : crc.length = 8) :
    ∃ h l : Byte, lenText = [h, l] ∧ hexPair h l = BitVec.ofNat 8 p.length ∧ LayoutFits h l pay crc ∧
      (∀ b ∈ pay, isHex b = true) ∧ unhex pay = p := by
  obtain ⟨hpayLength, hpayHex, hpayUnhex⟩ := map_upperHex_eq_payloadText_iff.1 hpay
  have hspelled : lenText.map upperHex = payloadText [BitVec.ofNat 8 p.length] := hlen
  obtain ⟨hlenLength, hlenHex, hlenUnhex⟩ := map_upperHex_eq_payloadText_iff.1 hspelled
  obtain ⟨h, l, rfl⟩ := List.length_eq_two.1 hlenLength
  have hvalue : hexPair h l = BitVec.ofNat 8 p.length := List.head_eq_of_cons_eq hlenUnhex
  refine ⟨h, l, rfl, hvalue, ⟨hlenHex h (by simp), hlenHex l (by simp), ?_, hcrc⟩, hpayHex, hpayUnhex⟩
  rw [hpayLength, hvalue, toNat_ofNat_length hp]

/-- R140, R85: the judgement accepts a text as the payload `p` exactly when the text is a frame of `p`. -/
theorem judgeFrame_accepted_iff {c p : List Byte} {len : Byte} {expected actual : Word} :
    judgeFrame c = .accepted len p expected actual ↔
      readsAsFrame c p ∧ len = BitVec.ofNat 8 p.length ∧ expected = crc32 p ∧ actual = crc32 p := by
  constructor
  · intro hj
    obtain ⟨h, l, pay, hfit, hhex, rfl, rfl, rfl⟩ := layout_of_judgeFrame_accepted hj
    obtain ⟨-, -, hexpected, hactual⟩ := FrameOutcome.accepted.inj ((hfit.judgeFrame_accepted hhex rfl).symm.trans hj)
    obtain ⟨hcount, htext⟩ := payloadText_unhex hfit.pay_length hhex
    have hlen : hexPair h l = BitVec.ofNat 8 (unhex pay).length := by rw [hcount, BitVec.ofNat_toNat, BitVec.setWidth_eq]
    refine ⟨⟨?_, [h, l], pay, rfl, ?_, htext.symm⟩, hlen, hexpected.symm, hactual.symm⟩
    · have := (hexPair h l).isLt
      omega
    · rw [← hlen, hex2_hexPair hfit.lenHigh_hex hfit.lenLow_hex]
      rfl
  · rintro ⟨⟨hp, lenText, pay, rfl, hlen, hpay⟩, rfl, rfl, rfl⟩
    obtain ⟨h, l, rfl, hvalue, hfit, hhex, rfl⟩ := fields_of_spelling hp hlen hpay (hex8_length (crc32 p))
    rw [← hvalue]
    exact hfit.judgeFrame_accepted hhex rfl

end Sys2Proof.Machine
end

section
/-!
PROOFS. DECODE (spec/42_frame_decode.md R140 to R145): what the step does with its count and its judgement, and the statements
O43 to O53.
-/

namespace Sys2Proof.Machine

/-! ### What DECODE does -/

@[simp] theorem decodeFailed_statusResult (s : State) (r f : BitVec 3) : (s.decodeFailed r f).statusResult = r := rfl
@[simp] theorem decodeFailed_statusDecValid (s : State) (r f : BitVec 3) :
    (s.decodeFailed r f).statusDecValid = false := rfl

/-- `s` after a DECODE that accepts its candidate as the payload `p`: every decode output written (S9 of R140). -/
def State.decodeAccepted (s : State) (len : Byte) (p : List Byte) (expected actual : Word) : State :=
  { s with
    statusResult := 0, statusFcause := 0, statusDecValid := true, decLen := len, decFields := payloadFields p
    crcExp := expected, crcAct := actual, pbuf := Vector.ofFn fun j => p.getD j.val 0 }

/-- S0: the count RXBUF cannot hold. -/
theorem exec_decode_badCount {s : State} (h : 528 < s.rxCount.toNat) : exec .decode s = .next (s.decodeFailed 4 0) := by
  rcases execDecode_cases s with ⟨-, hrun⟩ | ⟨hfits, -⟩
  · exact hrun
  · omega

/-- A count RXBUF can hold gives DECODE its candidate. -/
theorem candidate_receivedChars {s : State} (h : s.rxCount.toNat ≤ 528) : s.candidate (receivedChars s) := by
  refine ⟨?_, List.take_prefix _ _⟩
  rw [receivedChars, List.length_take, Vector.length_toList, Nat.min_eq_left h]

section
variable {s : State} {c : List Byte}

theorem exec_decode_framingError {cause : FCause} (hc : s.candidate c) (hj : judgeFrame c = .framingError cause) :
    exec .decode s = .next (s.decodeFailed 1 cause.code) := by
  rw [exec_decode_of_candidate hc, hj]
  rfl

theorem exec_decode_checksumMismatch {expected actual : Word} (hc : s.candidate c)
    (hj : judgeFrame c = .checksumMismatch expected actual) :
    exec .decode s = .next { s.decodeFailed 2 0 with crcExp := expected, crcAct := actual } := by
  rw [exec_decode_of_candidate hc, hj]
  rfl

theorem exec_decode_accepted {len : Byte} {p : List Byte} {expected actual : Word} (hc : s.candidate c)
    (hj : judgeFrame c = .accepted len p expected actual) :
    exec .decode s = .next (s.decodeAccepted len p expected actual) := by
  rw [exec_decode_of_candidate hc, hj, recordFrameOutcome, writeDecodedFields, packFields_fillBuffer,
    fillBuffer_eq_ofFn]
  rfl

end

/-- Every DECODE ends in one of four ways: BAD_COUNT, a framing error, a checksum mismatch, or a frame accepted. -/
theorem exec_decode_cases (s : State) :
    (528 < s.rxCount.toNat ∧ exec .decode s = .next (s.decodeFailed 4 0)) ∨
      (s.rxCount.toNat ≤ 528 ∧ s.candidate (receivedChars s) ∧
        ((∃ cause, judgeFrame (receivedChars s) = .framingError cause ∧
            exec .decode s = .next (s.decodeFailed 1 cause.code)) ∨
          (∃ expected actual, judgeFrame (receivedChars s) = .checksumMismatch expected actual ∧
            exec .decode s = .next { s.decodeFailed 2 0 with crcExp := expected, crcAct := actual }) ∨
          ∃ len p expected actual, judgeFrame (receivedChars s) = .accepted len p expected actual ∧
            exec .decode s = .next (s.decodeAccepted len p expected actual))) := by
  by_cases hcount : 528 < s.rxCount.toNat
  · exact .inl ⟨hcount, exec_decode_badCount hcount⟩
  have hfits := Nat.le_of_not_lt hcount
  have hc := candidate_receivedChars hfits
  refine .inr ⟨hfits, hc, ?_⟩
  cases hj : judgeFrame (receivedChars s) with
  | framingError cause => exact .inl ⟨cause, rfl, exec_decode_framingError hc hj⟩
  | checksumMismatch expected actual => exact .inr (.inl ⟨expected, actual, rfl, exec_decode_checksumMismatch hc hj⟩)
  | accepted len p expected actual =>
    exact .inr (.inr ⟨len, p, expected, actual, rfl, exec_decode_accepted hc hj⟩)

/-! ### One received character changed -/

section
variable {s : State} {text : List Byte} {i : Fin 528} {k : Nat}

/-- The received characters below RX_COUNT are those of the candidate. -/
theorem getElem?_of_candidate (hc : s.candidate text) (hi : i.val = k) (hk : k < text.length) :
    text[k]? = some s.rxbuf[i] := by
  subst hi
  obtain ⟨-, hprefix⟩ := hc
  rw [List.getElem?_eq_getElem hk, hprefix.getElem hk, Vector.getElem_toList]
  rfl

theorem candidate_set (hc : s.candidate text) (hi : i.val = k) (b : Byte) :
    State.candidate { s with rxbuf := s.rxbuf.set i b } (text.set k b) := by
  subst hi
  obtain ⟨hcount, hprefix⟩ := hc
  refine ⟨by rw [List.length_set]; exact hcount, ?_⟩
  rw [List.prefix_iff_eq_take] at hprefix ⊢
  show text.set i b = ((s.rxbuf.set i b).toList).take (text.set i b).length
  rw [Vector.toList_set, List.length_set, List.take_set, ← hprefix]

end

theorem append_middle_set (a m e : List Byte) {j : Nat} (hj : j < m.length) (b : Byte) :
    (a ++ m ++ e).set (a.length + j) b = a ++ m.set j b ++ e := by
  rw [List.append_assoc, List.append_assoc, List.set_append_right _ _ (Nat.le_add_right _ _), Nat.add_sub_cancel_left,
    List.set_append_left _ _ hj]

theorem append_middle_getElem? (a m e : List Byte) {j : Nat} (hj : j < m.length) :
    (a ++ m ++ e)[a.length + j]? = m[j]? := by
  rw [List.append_assoc, List.getElem?_append_right (Nat.le_add_right _ _), Nat.add_sub_cancel_left,
    List.getElem?_append_left hj]

section
variable {h l : Byte} {pay crc : List Byte} {j : Nat}

/-- R85: the payload characters stand from index 6 on. -/
theorem frameLayout_eq_around_pay (h l : Byte) (pay crc : List Byte) :
    frameLayout h l pay crc = (headerMarker ++ [h, l]) ++ pay ++ (crc ++ footerMarker) :=
  List.append_assoc _ _ _

theorem frameLayout_set_pay (hj : j < pay.length) (b : Byte) :
    (frameLayout h l pay crc).set (6 + j) b = frameLayout h l (pay.set j b) crc := by
  rw [frameLayout_eq_around_pay, frameLayout_eq_around_pay]
  exact append_middle_set (headerMarker ++ [h, l]) pay _ hj b

theorem frameLayout_getElem?_pay (hj : j < pay.length) : (frameLayout h l pay crc)[6 + j]? = pay[j]? := by
  rw [frameLayout_eq_around_pay]
  exact append_middle_getElem? (headerMarker ++ [h, l]) pay _ hj

/-- R85: the checksum characters stand behind the header, LEN and the payload. -/
theorem length_before_crc (h l : Byte) (pay : List Byte) :
    (headerMarker ++ [h, l] ++ pay).length = 6 + pay.length := by
  rw [List.length_append]; rfl

theorem frameLayout_set_crc (hj : j < crc.length) (b : Byte) :
    (frameLayout h l pay crc).set (6 + pay.length + j) b = frameLayout h l pay (crc.set j b) := by
  rw [← length_before_crc h l]
  exact append_middle_set (headerMarker ++ [h, l] ++ pay) crc _ hj b

theorem frameLayout_getElem?_crc (hj : j < crc.length) :
    (frameLayout h l pay crc)[6 + pay.length + j]? = crc[j]? := by
  rw [← length_before_crc h l]
  exact append_middle_getElem? (headerMarker ++ [h, l] ++ pay) crc _ hj

end

/-- An accepting DECODE was given the fields of a frame, with the checksum of its payload, and its LEN is in DEC_LEN. -/
theorem layout_of_exec_decode_ok {s t : State} (ht : exec .decode s = .next t) (hok : t.statusResult = 0) :
    ∃ (h l : Byte) (pay : List Byte), LayoutFits h l pay (hex8 (crc32 (unhex pay))) ∧
      (∀ b ∈ pay, isHex b = true) ∧ s.candidate (frameLayout h l pay (hex8 (crc32 (unhex pay)))) ∧
      t.decLen = hexPair h l := by
  have hnext {u : State} (hu : exec .decode s = .next u) : t = u := Host.Outcome.next.inj (ht.symm.trans hu)
  rcases exec_decode_cases s with
    ⟨-, hrun⟩ | ⟨-, hc, ⟨_, -, hrun⟩ | ⟨_, _, -, hrun⟩ | ⟨len, p, _, _, hj, hrun⟩⟩ <;> cases hnext hrun
  · exact absurd hok (by simp)
  · exact absurd hok (by simp)
  · exact absurd hok (by simp)
  · obtain ⟨h, l, pay, hfit, hhex, hlayout, rfl, rfl⟩ := layout_of_judgeFrame_accepted hj
    exact ⟨h, l, pay, hfit, hhex, hlayout ▸ hc, rfl⟩

/-! ### The statements -/

/-- Settles O43: the word of DECODE, and S0. -/
theorem decodeBadCount : Obligations.DecodeBadCount :=
  ⟨decode_command_word .decode, fun _ => exec_decode_badCount⟩

/-- Settles O44: each way S1 to S3 can end meets the hypotheses of its own clause alone. -/
theorem decodeMarkerChecks : Obligations.DecodeMarkerChecks := by
  intro s c hc
  rcases judgeFrame_cases_of_markers c with
    ⟨hh, hj⟩ | ⟨hh, hf, hj⟩ | ⟨hh, hf, hlen, hj⟩ | ⟨hh, hf, h4, h5, -⟩
  · exact ⟨fun _ => exec_decode_framingError hc hj, fun hh' => absurd hh' hh, fun hh' => absurd hh' hh⟩
  · exact ⟨fun hh' => absurd hh hh', fun _ _ => exec_decode_framingError hc hj, fun _ hf' => absurd hf' hf⟩
  · exact ⟨fun hh' => absurd hh hh', fun _ hf' => absurd hf hf', fun _ _ _ => exec_decode_framingError hc hj⟩
  · exact ⟨fun hh' => absurd hh hh', fun _ hf' => absurd hf hf', fun _ _ hlen => absurd ⟨h4, h5⟩ hlen⟩

/-- Settles O45: past S3 the body is judged under the number that the LEN characters are. -/
theorem decodeLengthChecks : Obligations.DecodeLengthChecks := by
  intro s c hc hh hf h4 h5
  rw [← hexPair_toNat]
  rcases judgeFrame_cases_of_markers c with
    ⟨hbad, -⟩ | ⟨-, hbad, -⟩ | ⟨-, -, hbad, -⟩ | ⟨-, -, -, -, hbody⟩
  · exact absurd hh hbad
  · exact absurd hf hbad
  · exact absurd ⟨h4, h5⟩ hbad
  rcases judgeBody_cases c (hexPair (charAt c 4) (charAt c 5)) with ⟨hshort, hj⟩ | ⟨hlong, hj⟩ | ⟨hright, -⟩
  · exact ⟨fun _ => exec_decode_framingError hc (hbody.trans hj), fun hlong => by omega⟩
  · exact ⟨fun hshort => by omega, fun _ => exec_decode_framingError hc (hbody.trans hj)⟩
  · exact ⟨fun hshort => by omega, fun hlong => by omega⟩

/-- Settles O46: the fields fit, so the first of the two hex checks that fails decides. -/
theorem decodeHexFieldChecks : Obligations.DecodeHexFieldChecks := by
  intro s h l pay crc hc hh hl hpay hcrc
  have hfit : LayoutFits h l pay crc := ⟨hh, hl, by rw [hpay, hexPair_toNat], hcrc⟩
  exact ⟨fun hbad => exec_decode_framingError hc (hfit.judgeFrame_payloadNotHex hbad),
    fun hhex hbad => exec_decode_framingError hc (hfit.judgeFrame_crcFieldNotHex hhex hbad)⟩

/-- Settles O47: the spelled fields fit and stand for `p` and `sent`, so the comparison of S8 alone decides. -/
theorem decodeChecksumStage : Obligations.DecodeChecksumStage := by
  intro s p lenText pay crc sent hp hc hlen hpay hcrc
  obtain ⟨hcrcLength, hcrcHex, rfl⟩ := hex_of_map_upperHex_eq_hex8 hcrc
  obtain ⟨h, l, rfl, hvalue, hfit, hhex, rfl⟩ := fields_of_spelling hp hlen hpay hcrcLength
  refine ⟨fun hne => exec_decode_checksumMismatch hc (hfit.judgeFrame_checksumMismatch hhex hcrcHex hne), fun heq => ?_⟩
  rw [← hvalue]
  exact exec_decode_accepted hc (hfit.judgeFrame_accepted hhex heq)

/-- Settles O48: a frame of `p` is judged accepted as `p`, and RESULT and DEC_VALID tell an accepting judgement from the others. -/
theorem decodeAcceptsExactlyFrames : Obligations.DecodeAcceptsExactlyFrames := by
  intro s c hc
  have haccepts {p : List Byte} (hp : readsAsFrame c p) :
      judgeFrame c = .accepted (BitVec.ofNat 8 p.length) p (crc32 p) (crc32 p) :=
    judgeFrame_accepted_iff.2 ⟨hp, rfl, rfl, rfl⟩
  cases hj : judgeFrame c with
  | framingError cause =>
    have hnone : ¬ ∃ p, readsAsFrame c p := fun ⟨p, hp⟩ => nomatch hj.symm.trans (haccepts hp)
    exact ⟨_, exec_decode_framingError hc hj, iff_of_false (by simp) hnone, by simp,
      fun p hp => absurd ⟨p, hp⟩ hnone⟩
  | checksumMismatch expected actual =>
    have hnone : ¬ ∃ p, readsAsFrame c p := fun ⟨p, hp⟩ => nomatch hj.symm.trans (haccepts hp)
    exact ⟨_, exec_decode_checksumMismatch hc hj, iff_of_false (by simp) hnone, by simp,
      fun p hp => absurd ⟨p, hp⟩ hnone⟩
  | accepted len p expected actual =>
    obtain ⟨hp, -⟩ := judgeFrame_accepted_iff.1 hj
    refine ⟨_, exec_decode_accepted hc hj, iff_of_true rfl ⟨p, hp⟩, iff_of_true rfl rfl, fun q hq => ?_⟩
    obtain ⟨rfl, rfl, -, -⟩ := FrameOutcome.accepted.inj (hj.symm.trans (haccepts hq))
    exact ⟨toNat_ofNat_length hp.1, rfl, fun j => Vector.getElem_ofFn _⟩

/-- Settles O49: the four ways a DECODE ends, each with its RESULT. -/
theorem decodeAlwaysEndsInItsResults : Obligations.DecodeAlwaysEndsInItsResults := by
  intro s
  rcases exec_decode_cases s with
    ⟨hbig, hrun⟩ | ⟨hfits, -, ⟨_, -, hrun⟩ | ⟨_, _, -, hrun⟩ | ⟨_, _, _, _, -, hrun⟩⟩
  · exact ⟨_, hrun, fun hfits => by omega, fun _ => rfl⟩
  · exact ⟨_, hrun, fun _ => .inr (.inl rfl), fun hbig => by omega⟩
  · exact ⟨_, hrun, fun _ => .inr (.inr rfl), fun hbig => by omega⟩
  · exact ⟨_, hrun, fun _ => .inl rfl, fun hbig => by omega⟩

/-- Settles O50: the candidate is the same in both states, and the judgement of it is all that DECODE writes. -/
theorem decodeDependsOnCountedCharsOnly : Obligations.DecodeDependsOnCountedCharsOnly := by
  intro s u hcount hchars
  have hsame : receivedChars s = receivedChars u := by
    rw [receivedChars, receivedChars, ← hcount]
    apply List.ext_getElem (by simp)
    intro i hi _
    simp only [List.length_take, Vector.length_toList, lt_min_iff] at hi
    simpa using hchars ⟨i, hi.2⟩ hi.1
  rcases exec_decode_cases s with
    ⟨hbig, hrun⟩ | ⟨hfits, -, ⟨_, hj, hrun⟩ | ⟨_, _, hj, hrun⟩ | ⟨_, _, _, _, hj, hrun⟩⟩
  · exact ⟨_, _, hrun, exec_decode_badCount (hcount ▸ hbig), rfl, rfl, rfl, rfl, rfl, rfl, rfl, rfl⟩
  all_goals
    have hcu := candidate_receivedChars (s := u) (hcount ▸ hfits)
    rw [hsame] at hj
  · exact ⟨_, _, hrun, exec_decode_framingError hcu hj, rfl, rfl, rfl, rfl, rfl, rfl, rfl, rfl⟩
  · exact ⟨_, _, hrun, exec_decode_checksumMismatch hcu hj, rfl, rfl, rfl, rfl, rfl, rfl, rfl, rfl⟩
  · exact ⟨_, _, hrun, exec_decode_accepted hcu hj, rfl, rfl, rfl, rfl, rfl, rfl, rfl, rfl⟩

/-- Settles O51: in each of the four ways a DECODE ends, what it writes is an output, and only the accepting way writes a field. -/
theorem decodeFrameAndNoBestGuess : Obligations.DecodeFrameAndNoBestGuess := by
  intro s
  rcases exec_decode_cases s with
    ⟨-, hrun⟩ | ⟨-, -, ⟨_, -, hrun⟩ | ⟨_, _, -, hrun⟩ | ⟨_, _, _, _, -, hrun⟩⟩
  · exact ⟨_, hrun, rfl, fun _ => ⟨rfl, rfl, rfl, rfl⟩, fun _ _ => ⟨rfl, rfl⟩⟩
  · exact ⟨_, hrun, rfl, fun _ => ⟨rfl, rfl, rfl, rfl⟩, fun _ _ => ⟨rfl, rfl⟩⟩
  · exact ⟨_, hrun, rfl, fun _ => ⟨rfl, rfl, rfl, rfl⟩, fun _ hne => absurd rfl hne⟩
  · exact ⟨_, hrun, rfl, fun hne => absurd rfl hne, fun hne => absurd rfl hne⟩

/-- Settles O52: the payload is as it was, so its checksum is, and the changed field is not hex8 of it. -/
theorem checksumFieldCorruptionDetected : Obligations.ChecksumFieldCorruptionDetected := by
  intro s t ht hok i b hfrom hto hne
  obtain ⟨h, l, pay, hfit, hhex, hc, hlen⟩ := layout_of_exec_decode_ok ht hok
  rw [hlen, ← hfit.pay_length] at hfrom hto
  obtain ⟨j, hi⟩ := Nat.exists_eq_add_of_le hfrom
  generalize hcrc : hex8 (crc32 (unhex pay)) = crc at hfit hc
  have hj : j < crc.length := by rw [hfit.crc_length]; omega
  have hwas : crc[j]? = some s.rxbuf[i] := by
    rw [← frameLayout_getElem?_crc hj]
    exact getElem?_of_candidate hc hi (by rw [frameLayout_length, hfit.crc_length]; omega)
  have hc' := candidate_set hc hi b
  rw [frameLayout_set_crc hj] at hc'
  have hchanged : crc.set j b ≠ crc := by
    intro heq
    have hnow : crc[j]? = some b := by rw [← heq, List.getElem?_set_self hj]
    exact hne (Option.some.inj (hnow.symm.trans hwas))
  have hfit' := hfit.set_crc j b
  by_cases hb : isHex b = true
  · have hcrcHex : ∀ x ∈ crc.set j b, isHex x = true := fun x hx =>
      (List.mem_or_eq_of_mem_set hx).elim (hcrc ▸ forall_mem_hex8 (P := (isHex · = true)) isHex_hexChar _ x) (· ▸ hb)
    exact ⟨_, exec_decode_checksumMismatch hc' (hfit'.judgeFrame_checksumMismatch hhex hcrcHex (hcrc ▸ hchanged)),
      fun _ => ⟨rfl, rfl⟩, fun hnot => absurd hb (by simp [hnot])⟩
  · have hbad : ∃ x ∈ crc.set j b, isHex x = false := ⟨b, List.mem_set hj b, by simpa using hb⟩
    exact ⟨_, exec_decode_framingError hc' (hfit'.judgeFrame_crcFieldNotHex hhex hbad),
      fun hb' => absurd hb' hb, fun _ => ⟨rfl, rfl⟩⟩

/-- Settles O53: a digit of another value changes one byte of the payload and so its checksum; one of the same value changes no
byte, and the frame is accepted as before. -/
theorem payloadCorruptionDetected : Obligations.PayloadCorruptionDetected := by
  intro s t ht hok i b hfrom hto hb
  obtain ⟨h, l, pay, hfit, hhex, hc, hlen⟩ := layout_of_exec_decode_ok ht hok
  rw [hlen, ← hfit.pay_length] at hto
  obtain ⟨j, hi⟩ := Nat.exists_eq_add_of_le hfrom
  have hj : j < pay.length := by omega
  have hwas : pay[j] = s.rxbuf[i] := by
    refine Option.some.inj ?_
    rw [← List.getElem?_eq_getElem hj, ← frameLayout_getElem?_pay hj]
    exact getElem?_of_candidate hc hi (by rw [frameLayout_length]; omega)
  have hc' := candidate_set hc hi b
  rw [frameLayout_set_pay hj] at hc'
  have hhex' : ∀ x ∈ pay.set j b, isHex x = true := fun x hx =>
    (List.mem_or_eq_of_mem_set hx).elim (hhex x) (· ▸ hb)
  have hfit' := hfit.set_pay j b
  obtain ⟨before, x, y, behind, hold, hnew, hvalue⟩ := unhex_set hfit.pay_length hj b
  rw [hexVal_eq_iff hb (hhex _ (List.getElem_mem hj)), hwas] at hvalue
  by_cases hcase : upperHex b = upperHex s.rxbuf[i]
  · have hpayload : unhex (pay.set j b) = unhex pay := by rw [hnew, hold, hvalue.2 hcase]
    cases ht.symm.trans (exec_decode_accepted hc (hfit.judgeFrame_accepted hhex rfl))
    refine ⟨_, exec_decode_accepted hc' (hfit'.judgeFrame_accepted hhex' (by rw [hpayload])),
      fun hne => absurd hcase hne, fun _ => ?_⟩
    rw [hpayload]
    rfl
  · have hcrc : hex8 (crc32 (unhex pay)) ≠ hex8 (crc32 (unhex (pay.set j b))) := by
      intro heq
      rw [hold, hnew] at heq
      exact hcase (hvalue.1 (crc32_append_cons_injective before behind (hex8_injective heq)).symm)
    exact ⟨_, exec_decode_checksumMismatch hc'
        (hfit'.judgeFrame_checksumMismatch hhex' (forall_mem_hex8 isHex_hexChar _) hcrc),
      fun _ => ⟨rfl, rfl⟩, fun hcase' => absurd hcase' hcase⟩

end Sys2Proof.Machine
end

section
/-!
PROOFS. The control commands and command dispatch (spec/43_control.md R170 to R172, R175): where a write to CMD goes, which
words R83 calls illegal, and the statements O7 and O21 to O23.
-/

namespace Sys2Proof.Machine

/-! ### Writes to CMD -/

/-- CMD is aligned, mapped and not read-only, so its write passes the tests of R173 and reaches dispatch. -/
theorem exec_hostWrite_cmd (v : Word) (s : State) : exec (.hostWrite 0x0000 v) s = runCommand v s := by
  have haligned : ¬ misaligned 0x0000 = true := by decide
  have hmapped : locate 0x0000 = some .cmd := rfl
  show execHostWrite 0x0000 v s = _
  rw [execHostWrite, if_neg haligned, hmapped]
  rfl

/-- R175: the word of a command runs the instruction of the opcode table that the command is. -/
theorem runCommand_command_word (c : Command) (s : State) : runCommand c.word s = exec c.toInstr s := by
  rw [runCommand, decodeCommand_word]
  cases c <;> rfl

theorem exec_hostWrite_cmd_word (c : Command) (s : State) :
    exec (.hostWrite 0x0000 c.word) s = exec c.toInstr s :=
  (exec_hostWrite_cmd _ s).trans (runCommand_command_word c s)

/-! ### Illegal command words -/

theorem command_word_toNat_le (c : Command) : c.word.toNat ≤ 6 := by
  cases c <;> decide

/-- R83: the two ways a command word is illegal are together the words above CLEAR's. -/
theorem illegal_command_word_iff (v : Word) :
    v.extractLsb' 8 24 ≠ 0 ∨ 0x07 ≤ v.extractLsb' 0 8 ↔ 6 < v.toNat := by
  have hreserved : (v.extractLsb' 8 24).toNat = v.toNat / 2 ^ 8 % 2 ^ 24 := by
    rw [BitVec.extractLsb'_toNat, Nat.shiftRight_eq_div_pow]
  have hcode : (v.extractLsb' 0 8).toNat = v.toNat % 2 ^ 8 := by
    rw [BitVec.extractLsb'_toNat, Nat.shiftRight_zero]
  bv_omega

/-- R172: a word above CLEAR's, written to CMD, changes RESULT and FCAUSE alone. -/
theorem exec_hostWrite_cmd_illegal {v : Word} (h : 6 < v.toNat) (s : State) :
    exec (.hostWrite 0x0000 v) s = .next { s with statusResult := 3, statusFcause := 0 } := by
  rw [exec_hostWrite_cmd]
  obtain ⟨c, rfl, -⟩ | ⟨-, e, hrejected⟩ := decodeCommand_cases v
  · exact absurd (command_word_toNat_le c) (Nat.not_le_of_lt h)
  · rw [runCommand, hrejected]
    rfl

/-! ### NOP and CLEAR -/

theorem exec_nop (s : State) : exec .nop s = .next s := rfl

theorem exec_clear (s : State) :
    exec .clear s = .next (setOk (setCrcAcc 0xFFFFFFFF (clearDecodeOutputs (clearEncodeOutputs s)))) := rfl

/-! ### The statements -/

/-- Settles O7: R83's two conditions put the word above the command words, where dispatch finds no command. -/
theorem illegalCommandOutcome : Obligations.IllegalCommandOutcome := fun s v hillegal =>
  exec_hostWrite_cmd_illegal ((illegal_command_word_iff v).1 hillegal) s

/-- Settles O21: the word of NOP, and NOP hands its state on. -/
theorem nopHasNoEffect : Obligations.NopHasNoEffect :=
  ⟨decode_command_word .nop, exec_nop⟩

/-- Settles O22: the word of CLEAR, and its four updates written out. -/
theorem clearRestoresOutputs : Obligations.ClearRestoresOutputs :=
  ⟨decode_command_word .clear, exec_clear⟩

/-- Settles O23: one dispatch lemma at each of the seven command words, and the illegal outcome at every other word. -/
theorem cmdWriteDispatch : Obligations.CmdWriteDispatch := fun s =>
  ⟨exec_hostWrite_cmd_word .nop s, exec_hostWrite_cmd_word .encode s, exec_hostWrite_cmd_word .decode s,
    exec_hostWrite_cmd_word .crcInit s, exec_hostWrite_cmd_word .crcByte s, exec_hostWrite_cmd_word .crcCheck s,
    exec_hostWrite_cmd_word .clear s, fun _ h => exec_hostWrite_cmd_illegal h s⟩

end Sys2Proof.Machine
end

section
/-!
PROOFS. The two instruction formats (spec/30_encoding.md R80 to R84): the encoder and the decoder agree, a transaction is its three
fields, and the statements O1 to O4.
-/

namespace Sys2Proof

open Machine (decode_command_word command_word_toNat_le)

@[simp] theorem encode_command (c : Command) : encode c.toInstr = .cmdw c.word := by cases c <;> rfl

/-- R84: a transaction is made of its WE, ADDR and DATA. -/
@[simp] theorem busWord_fields (t : BusWord) :
    busWord (BitVec.ofBool (busWe t)) (busAddr t) (busData t) = t := by
  apply BitVec.eq_of_getLsbD_eq
  intro i hi
  rw [busWord_getLsbD]
  split
  · simp [busData, *]
  split
  · simp [busAddr, show i - 32 < 16 by omega, show 32 + (i - 32) = i by omega]
  · obtain rfl : i = 48 := by omega
    simp [busWe]

theorem decodeBus_busWord (we : BitVec 1) (a : HAddr) (v : Word) :
    decodeBus (busWord we a v) = if we.getLsbD 0 then .hostWrite a v else .hostRead a := by
  simp [decodeBus]

theorem decodeBus_eq_hostWrite_iff {t : BusWord} {a : HAddr} {v : Word} :
    decodeBus t = .hostWrite a v ↔ t = busWord 1 a v := by
  refine ⟨fun h => ?_, fun h => h ▸ decodeBus_busWord 1 a v⟩
  have hfields := busWord_fields t
  rw [decodeBus] at h
  split at h
  case isTrue hwe =>
    cases h
    rw [hwe] at hfields
    exact hfields.symm
  case isFalse => cases h

/-- The encoding of a HOST_READ is any transaction of that read with its DATA cleared. -/
theorem busWord_zero_data {t : BusWord} (h : busWe t = false) : busWord 0 (busAddr t) 0 = (t >>> 32) <<< 32 := by
  apply BitVec.eq_of_getLsbD_eq
  intro i hi
  rw [busWord_getLsbD]
  split
  · simp [*]
  split
  · simp [busAddr, *, show i - 32 < 16 by omega]
  · obtain rfl : i = 48 := by omega
    simpa [busWe] using h.symm

theorem encode_decodeBus (t : BusWord) :
    encode (decodeBus t) = .bus (if t.getLsbD 48 then t else (t >>> 32) <<< 32) := by
  have hwe : busWe t = t.getLsbD 48 := rfl
  rw [decodeBus, ← hwe]
  cases hwe : busWe t with
  | true =>
    have hfields := busWord_fields t
    rw [hwe] at hfields
    exact congrArg RawWord.bus hfields
  | false => exact congrArg RawWord.bus (busWord_zero_data hwe)

/-! ### The statements -/

/-- Settles O1: each command by its word, and each host operation by the fields of its transaction. -/
theorem encodeThenDecode : Obligations.EncodeThenDecode := by
  intro i
  have hcommand (c : Command) : decode (encode c.toInstr) = .ok c.toInstr := by
    rw [encode_command, decode_command_word]
  cases i with
  | nop => exact hcommand .nop
  | encode => exact hcommand .encode
  | decode => exact hcommand .decode
  | crcInit => exact hcommand .crcInit
  | crcByte => exact hcommand .crcByte
  | crcCheck => exact hcommand .crcCheck
  | clear => exact hcommand .clear
  | hostRead a => exact congrArg Except.ok (decodeBus_busWord 0 a 0)
  | hostWrite a v => exact congrArg Except.ok (decodeBus_busWord 1 a v)

/-- Settles O2: only the word of a command decodes to it, and a transaction is made of the fields it decodes to. -/
theorem decodeThenEncode : Obligations.DecodeThenEncode := by
  refine ⟨fun v i hi => ?_, fun t => ⟨decodeBus t, rfl, encode_decodeBus t⟩⟩
  rcases decodeCommand_cases v with ⟨c, rfl, -⟩ | ⟨-, e, he⟩
  · rw [decode_command_word] at hi
    cases hi
    exact encode_command c
  · simp [decode, he] at hi

/-- Settles O3: the seven words of the commands, and the decoder's rejection of every word above them. -/
theorem commandMap : Obligations.CommandMap := by
  refine ⟨decode_command_word .nop, decode_command_word .encode, decode_command_word .decode,
    decode_command_word .crcInit, decode_command_word .crcByte, decode_command_word .crcCheck,
    decode_command_word .clear, fun v hv => ?_⟩
  rcases decodeCommand_cases v with ⟨c, rfl, -⟩ | ⟨-, e, he⟩
  · exact absurd (command_word_toNat_le c) (Nat.not_le_of_lt hv)
  · exact ⟨e, by simp [decode, he]⟩

/-- Settles O4, by evaluating the decoder on the six words. -/
theorem writtenOutWordsDecode : Obligations.WrittenOutWordsDecode := by
  unfold Obligations.WrittenOutWordsDecode
  decide

end Sys2Proof
end

section
/-!
PROOFS. The address map (spec/10_state.md R22, spec/20_memory.md R61) and the two host operations at every address
(spec/43_control.md R173, R174), and the statements O24 to O28.
-/

namespace Sys2Proof.Machine

/-! ### The address map -/

@[simp] theorem txbuf_offset_toNat (i : Fin 24) : (Location.txbuf i).offset.toNat = 0x0100 + 4 * i.val := by
  rw [Location.offset, BitVec.toNat_ofNat]; omega

@[simp] theorem rxbuf_offset_toNat (i : Fin 528) : (Location.rxbuf i).offset.toNat = 0x1000 + 4 * i.val := by
  rw [Location.offset, BitVec.toNat_ofNat]; omega

@[simp] theorem pbuf_offset_toNat (i : Fin 255) : (Location.pbuf i).offset.toNat = 0x2000 + 4 * i.val := by
  rw [Location.offset, BitVec.toNat_ofNat]; omega

/-- Above the registers an address is looked up in the three buffers, one after the other. -/
theorem locate_above_registers {a : HAddr} (h : 0x0034 < a.toNat) :
    locate a = ((bufferIndex 0x0100 24 a.toNat).map Location.txbuf).or
      (((bufferIndex 0x1000 528 a.toNat).map Location.rxbuf).or
        ((bufferIndex 0x2000 255 a.toNat).map Location.pbuf)) := by
  unfold locate
  split
  case h_15 => split <;> simp [*]
  all_goals omega

/-- R22: each location is found at its own offset. -/
theorem locate_offset (l : Location) : locate l.offset = some l := by
  cases l with
  | txbuf i =>
    have hi := (bufferIndex_eq_some_iff 0x0100 24 (Location.txbuf i).offset.toNat (by decide) i).2 (by simp)
    rw [locate_above_registers (by simp; omega), hi]
    rfl
  | rxbuf i =>
    have htx := (bufferIndex_eq_none_iff 0x0100 24 (Location.rxbuf i).offset.toNat).2 (by simp; omega)
    have hi := (bufferIndex_eq_some_iff 0x1000 528 (Location.rxbuf i).offset.toNat (by decide) i).2 (by simp)
    rw [locate_above_registers (by simp; omega), htx, hi]
    rfl
  | pbuf i =>
    have htx := (bufferIndex_eq_none_iff 0x0100 24 (Location.pbuf i).offset.toNat).2 (by simp; omega)
    have hrx := (bufferIndex_eq_none_iff 0x1000 528 (Location.pbuf i).offset.toNat).2 (by simp; omega)
    have hi := (bufferIndex_eq_some_iff 0x2000 255 (Location.pbuf i).offset.toNat (by decide) i).2 (by simp)
    rw [locate_above_registers (by simp; omega), htx, hrx, hi]
    rfl
  | _ => rfl

theorem mappedAddr_offset (l : Location) : mappedAddr l.offset := by
  unfold mappedAddr
  cases l with
  | txbuf i => simp; omega
  | rxbuf i => simp; omega
  | pbuf i => simp; omega
  | _ => decide

/-- R61: nothing is mapped but the offsets of the locations. -/
theorem exists_offset_of_mappedAddr {a : HAddr} (h : mappedAddr a) : ∃ l : Location, l.offset = a := by
  obtain ⟨haligned, hregister | ⟨hlow, hhigh⟩ | ⟨hlow, hhigh⟩ | ⟨hlow, hhigh⟩⟩ := h
  · have hregisters : ∀ n : Fin 14, ∃ l ∈ [Location.cmd, .status, .encIn, .encCrc, .txCount, .rxCount, .decLen,
        .decFields, .crcExp, .crcAct, .crcAcc, .crcOut, .crcDin, .crcCmp], l.offset.toNat = 4 * n.val := by decide
    obtain ⟨l, -, hl⟩ := hregisters ⟨a.toNat / 4, by omega⟩
    exact ⟨l, BitVec.eq_of_toNat_eq (by simp only at hl; omega)⟩
  · exact ⟨.txbuf ⟨(a.toNat - 0x0100) / 4, by omega⟩, BitVec.eq_of_toNat_eq (by simp; omega)⟩
  · exact ⟨.rxbuf ⟨(a.toNat - 0x1000) / 4, by omega⟩, BitVec.eq_of_toNat_eq (by simp; omega)⟩
  · exact ⟨.pbuf ⟨(a.toNat - 0x2000) / 4, by omega⟩, BitVec.eq_of_toNat_eq (by simp; omega)⟩

/-- What an address finds is the location whose offset it is. -/
theorem offset_of_locate {a : HAddr} {l : Location} (h : locate a = some l) : l.offset = a := by
  by_cases hlow : a.toNat ≤ 0x0034
  · have hregisters : ∀ n : Fin 0x0035, ∀ l ∈ locate (BitVec.ofNat 16 n.val), l.offset = BitVec.ofNat 16 n.val := by
      decide
    have ha : BitVec.ofNat 16 a.toNat = a := by simp
    exact ha ▸ hregisters ⟨a.toNat, by omega⟩ l (ha.symm ▸ h)
  · rw [locate_above_registers (Nat.lt_of_not_le hlow)] at h
    simp only [Option.or_eq_some_iff, Option.map_eq_some_iff, bufferIndex_eq_some_iff _ _ _ (by decide : 0x0100 % 4 = 0),
      bufferIndex_eq_some_iff _ _ _ (by decide : 0x1000 % 4 = 0),
      bufferIndex_eq_some_iff _ _ _ (by decide : 0x2000 % 4 = 0)] at h
    apply BitVec.eq_of_toNat_eq
    rcases h with ⟨i, hi, rfl⟩ | ⟨-, ⟨i, hi, rfl⟩ | ⟨-, i, hi, rfl⟩⟩ <;> simp [hi]

theorem locate_eq_some_iff {a : HAddr} {l : Location} : locate a = some l ↔ l.offset = a :=
  ⟨offset_of_locate, fun h => h ▸ locate_offset l⟩

theorem exists_locate_iff_mappedAddr {a : HAddr} : (∃ l, locate a = some l) ↔ mappedAddr a := by
  simp only [locate_eq_some_iff]
  exact ⟨fun ⟨l, h⟩ => h ▸ mappedAddr_offset l, exists_offset_of_mappedAddr⟩

theorem misaligned_offset (l : Location) : misaligned l.offset = false := by
  rw [← Bool.not_eq_true, misaligned_iff, not_not]
  exact (mappedAddr_offset l).1

/-- R22: the writable addresses are the offsets of the locations that are not read-only. -/
theorem writableAddr_offset_iff (l : Location) : writableAddr l.offset ↔ l.writeEffect ≠ .readOnly := by
  unfold writableAddr
  cases l with
  | txbuf i => simp [← BitVec.toNat_inj, Location.writeEffect]; omega
  | rxbuf i => simp [← BitVec.toNat_inj, Location.writeEffect]; omega
  | pbuf i => simp [← BitVec.toNat_inj, Location.writeEffect]; omega
  | _ => decide

theorem mappedAddr_of_writableAddr {a : HAddr} (h : writableAddr a) : mappedAddr a := by
  unfold mappedAddr
  rcases h with rfl | rfl | rfl | rfl | rfl | h
  · decide
  · decide
  · decide
  · decide
  · decide
  · omega

/-! ### Host accesses by location -/

/-- R174: a read of a mapped location returns its word. -/
theorem exec_hostRead_offset (l : Location) (s : State) :
    exec (.hostRead l.offset) s = .next (returnData (some (readLocation l s)) s) := by
  show execHostRead l.offset s = _
  rw [execHostRead, misaligned_offset, locate_offset]
  rfl

/-- R192: a read of any other address is rejected. -/
theorem exec_hostRead_unmapped {a : HAddr} (h : ¬ mappedAddr a) (s : State) :
    exec (.hostRead a) s = .next (returnData none (raiseHostAccessFault .read a s)) := by
  rcases execHostRead_cases a s with ⟨-, hrun⟩ | ⟨l, -, hl, -⟩
  · exact hrun
  · exact absurd (exists_locate_iff_mappedAddr.1 ⟨l, hl⟩) h

/-- R173: a write to a RW location stores into its input. -/
theorem exec_hostWrite_offset {l : Location} {input : HostInput} (h : l.writeEffect = .stores input) (v : Word)
    (s : State) : exec (.hostWrite l.offset v) s = .next (storeInput input v s) := by
  show execHostWrite l.offset v s = _
  rw [execHostWrite, misaligned_offset, locate_offset]
  simp [h]

/-- R192: a write to any address that is not writable is rejected. -/
theorem exec_hostWrite_rejected {a : HAddr} (h : ¬ writableAddr a) (v : Word) (s : State) :
    exec (.hostWrite a v) s = .next (raiseHostAccessFault .write a s) := by
  rcases execHostWrite_cases a v s with ⟨-, hrun⟩ | ⟨-, hl, -⟩ | ⟨l, input, -, hl, hw, -⟩
  · exact hrun
  · exact absurd (.inl (offset_of_locate hl).symm) h
  · rw [← offset_of_locate hl, writableAddr_offset_iff, hw] at h
    simp at h

/-- A command word has the effect of its write to CMD (R175), an illegal one included. -/
theorem runWord_cmdw (v : Word) (s : State) : runWord (.cmdw v) s = runCommand v s := by
  rcases decodeCommand_cases v with ⟨c, rfl, -⟩ | ⟨-, e, he⟩
  · rw [runWord, decode_command_word, runCommand_command_word]
  · simp [runWord, decode, runCommand, he]

/-! ### The words the locations read as -/

/-- R24: the three fields of STATUS at their places, seen on each of their values. -/
theorem statusWord_eq_ofNat (s : State) : statusWord s = BitVec.ofNat 32
    (256 * s.statusDecValid.toNat + 16 * s.statusFcause.toNat + s.statusResult.toNat) := by
  unfold statusWord
  generalize s.statusDecValid = valid, s.statusFcause = cause, s.statusResult = result
  revert valid cause result
  decide +kernel

theorem statusWord_reserved (s : State) : statusWord s &&& ~~~ meaningfulBits .status = 0 := by
  unfold statusWord
  generalize s.statusDecValid = valid, s.statusFcause = cause, s.statusResult = result
  revert valid cause result
  decide +kernel

/-- The low `n` bits of a word, zero-extended, are the word under a mask of `n` ones. -/
theorem setWidth_extractLsb'_eq_and (n : Nat) (v : Word) :
    (v.extractLsb' 0 n).setWidth 32 = v &&& (BitVec.allOnes n).setWidth 32 := by
  apply BitVec.eq_of_getLsbD_eq
  intro i hi
  by_cases h : i < n <;> simp [h, hi]

theorem setWidth_and_not_mask {n : Nat} (x : BitVec n) :
    x.setWidth 32 &&& ~~~ (BitVec.allOnes n).setWidth 32 = (0 : Word) := by
  apply BitVec.eq_of_getLsbD_eq
  intro i hi
  by_cases h : i < n
  · simp [h, hi]
  · simp [BitVec.getLsbD_of_ge x i (Nat.le_of_not_lt h)]

/-- R40: every bit that the map does not call meaningful reads 0. -/
theorem readLocation_reserved (l : Location) (s : State) : readLocation l s &&& ~~~ meaningfulBits l = 0 := by
  cases l with
  | status => exact statusWord_reserved s
  | cmd | encCrc | crcExp | crcAct | crcAcc | crcOut | crcCmp => simp [meaningfulBits]
  | encIn | txCount | rxCount | decLen | decFields | crcDin => exact setWidth_and_not_mask _
  | txbuf _ | rxbuf _ | pbuf _ => exact setWidth_and_not_mask _

/-- R66: a stored word is read back in its meaningful bits. -/
theorem readLocation_storeInput_same {l : Location} {input : HostInput} (h : l.writeEffect = .stores input) (v : Word)
    (s : State) : readLocation l (storeInput input v s) = v &&& meaningfulBits l := by
  cases l <;> cases h
  case encIn => exact setWidth_extractLsb'_eq_and 24 v
  case rxCount => exact setWidth_extractLsb'_eq_and 16 v
  case crcDin => exact setWidth_extractLsb'_eq_and 8 v
  case crcCmp => exact (BitVec.and_allOnes).symm
  case rxbuf i =>
    rw [← show (v.extractLsb' 0 8).setWidth 32 = v &&& meaningfulBits (.rxbuf i) from setWidth_extractLsb'_eq_and 8 v]
    simp [readLocation]

/-- A store changes what its own location reads as, and no other. -/
theorem readLocation_storeInput_of_ne {l m : Location} {input : HostInput} (h : l.writeEffect = .stores input)
    (hne : m ≠ l) (v : Word) (s : State) : readLocation m (storeInput input v s) = readLocation m s := by
  cases l <;> cases h
  case encIn => cases m with
    | encIn => exact absurd rfl hne
    | _ => rfl
  case rxCount => cases m with
    | rxCount => exact absurd rfl hne
    | _ => rfl
  case crcDin => cases m with
    | crcDin => exact absurd rfl hne
    | _ => rfl
  case crcCmp => cases m with
    | crcCmp => exact absurd rfl hne
    | _ => rfl
  case rxbuf i => cases m with
    | rxbuf j =>
      have hij : i.val ≠ j.val := fun h => hne (by rw [Fin.ext h])
      simp [readLocation, hij]
    | _ => rfl

theorem storeInput_idem (input : HostInput) (v : Word) (s : State) :
    storeInput input v (storeInput input v s) = storeInput input v s := by
  cases input with
  | rxbuf i => simp
  | _ => rfl

/-! ### The statements -/

/-- Settles O24: the map is the offsets of the locations, each of which is found at its own. -/
theorem addressMapIsExact : Obligations.AddressMapIsExact :=
  ⟨fun _ => exists_locate_iff_mappedAddr, fun _ _ => locate_eq_some_iff⟩

/-- Settles O25: rejected outside the writable addresses, dispatch at CMD, and a store at each input's offset. -/
theorem hostWriteEffect : Obligations.HostWriteEffect := by
  refine fun s v => ⟨fun a ha => exec_hostWrite_rejected ha v s, fun i hi => ?_, fun e he => ?_,
    exec_hostWrite_offset (l := .encIn) rfl v s, exec_hostWrite_offset (l := .rxCount) rfl v s,
    exec_hostWrite_offset (l := .crcDin) rfl v s, exec_hostWrite_offset (l := .crcCmp) rfl v s,
    fun i => exec_hostWrite_offset (l := .rxbuf i) rfl v s⟩
  · rw [exec_hostWrite_cmd, ← runWord_cmdw, runWord, hi]
  · rw [exec_hostWrite_cmd, ← runWord_cmdw, runWord, he]
    rfl

/-- Settles O26: rejected outside the map, and at each location's offset the word of that location. -/
theorem hostReadEffect : Obligations.HostReadEffect := by
  refine fun s => ⟨fun a ha => exec_hostRead_unmapped ha s, exec_hostRead_offset .cmd s, ?_,
    exec_hostRead_offset .encIn s, exec_hostRead_offset .encCrc s, exec_hostRead_offset .txCount s,
    exec_hostRead_offset .rxCount s, exec_hostRead_offset .decLen s, exec_hostRead_offset .decFields s,
    exec_hostRead_offset .crcExp s, exec_hostRead_offset .crcAct s, exec_hostRead_offset .crcAcc s,
    exec_hostRead_offset .crcOut s, exec_hostRead_offset .crcDin s, exec_hostRead_offset .crcCmp s,
    fun i => exec_hostRead_offset (.txbuf i) s, fun i => exec_hostRead_offset (.rxbuf i) s,
    fun i => exec_hostRead_offset (.pbuf i) s⟩
  rw [← statusWord_eq_ofNat]
  exact exec_hostRead_offset .status s

/-- Settles O27: a store is seen at its own location alone, and storing again stores the same. -/
theorem writeThenRead : Obligations.WriteThenRead := by
  intro l input v s h
  refine ⟨storeInput input v s, exec_hostWrite_offset h v s, ?_, fun m => ?_⟩
  · rw [exec_hostWrite_offset h, storeInput_idem]
  · rw [exec_hostRead_offset]
    split
    · subst m
      rw [readLocation_storeInput_same h]
      rfl
    · rw [readLocation_storeInput_of_ne h ‹_›]
      rfl

/-- Settles O28: the word a location reads as has nothing in its reserved bits. -/
theorem reservedBitsReadZero : Obligations.ReservedBitsReadZero :=
  fun l s => ⟨readLocation l s, exec_hostRead_offset l s, readLocation_reserved l s⟩

end Sys2Proof.Machine
end

section
/-!
PROOFS. A step on each event of the host (spec/00_scope.md R11, spec/20_memory.md R67, R70), the reset input
(spec/70_reset_and_hazards.md R210), and the statements O5, O6, O8 and O10 to O12.
-/

namespace Sys2Proof.Machine

/-! ### A step, event by event -/

theorem step_idle (s : State) : step { s with hostQueue := [] } = .next { s with hostQueue := [] } := rfl

theorem step_reset (s : State) (rest : List HostEvent) :
    step { s with hostQueue := .reset :: rest } = .next (resetBlock { s with hostQueue := rest }) := rfl

theorem step_present (s : State) (w : RawWord) (rest : List HostEvent) :
    step { s with hostQueue := .present w :: rest } = runWord w { s with hostQueue := rest } := rfl

theorem runWord_of_decode {w : RawWord} {i : Instr} (h : decode w = .ok i) (s : State) : runWord w s = exec i s := by
  rw [runWord, h]

/-- R84, R175: the transaction of a write to CMD reaches command dispatch. -/
theorem runWord_bus_cmd (v : Word) (s : State) : runWord (.bus (busWord 1 0x0000 v)) s = runCommand v s :=
  (runWord_of_decode (encodeThenDecode (.hostWrite 0x0000 v)) s).trans (exec_hostWrite_cmd v s)

/-! ### The statements -/

/-- Settles O5: the event is taken, and its word runs the instruction it decodes to. -/
theorem stepRunsDecodedWord : Obligations.StepRunsDecodedWord := fun s w rest _ _ hdecode =>
  (step_present s w rest).trans (runWord_of_decode hdecode _)

/-- Settles O6: the presented word is the next event, and taking it gives back the state it was presented to. -/
theorem fetchWordRunsFirst : Obligations.FetchWordRunsFirst := by
  intro s nbits w i h
  have hdecode : decode (rawOfTableWord nbits w) = .ok i := by
    unfold decodeTableWord at h
    split at h
    · rwa [← Option.some.inj h]
    · simp at h
  exact (step_present s _ s.hostQueue).trans (runWord_of_decode hdecode s)

/-- Settles O8: both forms of the event reach command dispatch. -/
theorem commandWordIsCmdWrite : Obligations.CommandWordIsCmdWrite := fun s v rest => by
  rw [step_present, step_present, runWord_cmdw, runWord_bus_cmd]

/-- Settles O10: the step with no event waiting. -/
theorem idleStepChangesNothing : Obligations.IdleStepChangesNothing := step_idle

/-- Settles O11: the reset input leaves the block of `resetBlock`, which names every field of the statement. -/
theorem resetInputRestoresRegisters : Obligations.ResetInputRestoresRegisters := fun s rest =>
  ⟨_, step_reset s rest, rfl⟩

/-- Settles O12: each register by its reset value, and CRC_OUT by the read of its location. -/
theorem resetRegisterValues : Obligations.ResetRegisterValues :=
  ⟨rfl, rfl, rfl, rfl, rfl, rfl, rfl, rfl, rfl, rfl, rfl, rfl, rfl, rfl, fun _ => Vector.getElem_replicate _,
    fun _ => Vector.getElem_replicate _, exec_hostRead_offset .crcOut State.reset⟩

end Sys2Proof.Machine
end

section
/-!
PROOFS. What an instruction can do, said once: it runs a command, ends in ILLEGAL_COMMAND, is rejected, stores into an input or
returns a word. From it the whole-machine rules, the statements O9, O15 to O20 and O39.
-/

namespace Sys2Proof.Machine

/-! ### What an instruction can do -/

/-- The instruction runs the command `c`: it is the command's own row, or the write of its word to CMD (R175). -/
def runsCommand (i : Instr) (c : Command) : Prop := i = c.toInstr ∨ i = .hostWrite 0x0000 c.word

theorem exec_of_runsCommand {i : Instr} {c : Command} (h : runsCommand i c) (s : State) :
    exec i s = exec c.toInstr s := by
  rcases h with rfl | rfl
  · rfl
  · exact exec_hostWrite_cmd_word c s

/-- No instruction runs two commands: the seven rows differ, and so do the seven words. -/
theorem runsCommand_inj {i : Instr} {c d : Command} (hc : runsCommand i c) (hd : runsCommand i d) : c = d := by
  have hword : Function.Injective Command.word := fun a b h =>
    Except.ok.inj ((decodeCommand_word a).symm.trans ((congrArg decodeCommand h).trans (decodeCommand_word b)))
  have hrow : Function.Injective Command.toInstr := fun a b h =>
    hword (RawWord.cmdw.inj (by rw [← encode_command, h, encode_command]))
  have hnotWrite (a : Command) (b : HAddr) (v : Word) : a.toInstr ≠ .hostWrite b v := by cases a <;> nofun
  rcases hc with rfl | rfl <;> rcases hd with hd | hd
  · exact hrow hd
  · exact absurd hd (hnotWrite _ _ _)
  · exact absurd hd.symm (hnotWrite _ _ _)
  · exact hword (Instr.hostWrite.inj hd).2

/-- What an instruction can do, one case a way, the same in every state. -/
inductive ExecCase (i : Instr) : Prop
  /-- It runs a command. -/
  | command (c : Command) (hc : runsCommand i c)
  /-- It writes an illegal command word to CMD (R172). -/
  | illegal (v : Word) (hv : 6 < v.toNat) (hi : i = .hostWrite 0x0000 v)
      (hrun : ∀ s, exec i s = .next (setOutcome .illegalCommand .none s))
  /-- It is a write that is rejected (R192). -/
  | rejectedWrite (a : HAddr) (v : Word) (ha : ¬ writableAddr a) (hi : i = .hostWrite a v)
      (hrun : ∀ s, exec i s = .next (raiseHostAccessFault .write a s))
  /-- It stores into a host-written input (R173). -/
  | store (l : Location) (input : HostInput) (v : Word) (hl : l.writeEffect = .stores input)
      (hi : i = .hostWrite l.offset v) (hrun : ∀ s, exec i s = .next (storeInput input v s))
  /-- It is a read that is rejected (R192). -/
  | rejectedRead (a : HAddr) (ha : ¬ mappedAddr a) (hi : i = .hostRead a)
      (hrun : ∀ s, exec i s = .next (returnData none (raiseHostAccessFault .read a s)))
  /-- It returns the word of a location (R174). -/
  | read (l : Location) (hi : i = .hostRead l.offset)
      (hrun : ∀ s, exec i s = .next (returnData (some (readLocation l s)) s))

theorem exec_cases (i : Instr) : ExecCase i := by
  have hcommand (c : Command) : runsCommand c.toInstr c := .inl rfl
  cases i with
  | nop => exact .command _ (hcommand .nop)
  | encode => exact .command _ (hcommand .encode)
  | decode => exact .command _ (hcommand .decode)
  | crcInit => exact .command _ (hcommand .crcInit)
  | crcByte => exact .command _ (hcommand .crcByte)
  | crcCheck => exact .command _ (hcommand .crcCheck)
  | clear => exact .command _ (hcommand .clear)
  | hostRead a =>
    by_cases ha : mappedAddr a
    · obtain ⟨l, rfl⟩ := exists_offset_of_mappedAddr ha
      exact .read l rfl (exec_hostRead_offset l)
    · exact .rejectedRead a ha rfl (exec_hostRead_unmapped ha)
  | hostWrite a v =>
    by_cases ha : writableAddr a
    · obtain ⟨l, rfl⟩ := exists_offset_of_mappedAddr (mappedAddr_of_writableAddr ha)
      cases hl : l.writeEffect with
      | readOnly => exact absurd hl ((writableAddr_offset_iff l).1 ha)
      | stores input => exact .store l input v hl rfl (exec_hostWrite_offset hl v)
      | runsCommand =>
        obtain rfl : l = .cmd := by cases l <;> first | rfl | cases hl
        rcases decodeCommand_cases v with ⟨c, rfl, -⟩ | ⟨hv, -⟩
        · exact .command c (.inr rfl)
        · exact .illegal v hv rfl (exec_hostWrite_cmd_illegal hv)
    · exact .rejectedWrite a v ha rfl (exec_hostWrite_rejected ha v)

/-! ### What a command can do -/

/-- `s` with the STATUS and the decode outputs of `t`: all that DECODE writes (R140). -/
def State.withDecodeOutputs (s t : State) : State :=
  { s with
    statusResult := t.statusResult, statusFcause := t.statusFcause, statusDecValid := t.statusDecValid
    decLen := t.decLen, decFields := t.decFields, crcExp := t.crcExp, crcAct := t.crcAct, pbuf := t.pbuf }

/-- DECODE writes the same outputs in any two states with the same RX_COUNT and RXBUF, and nothing else (R140, R142). -/
theorem exec_decode_of_same_chars {s u : State} (hcount : s.rxCount = u.rxCount) (hbuf : s.rxbuf = u.rxbuf) :
    ∃ t, exec .decode s = .next t ∧ t = s.withDecodeOutputs t ∧ exec .decode u = .next (u.withDecodeOutputs t) := by
  obtain ⟨t, v, ht, hv, hresult, hcause, hvalid, hlen, hfields, hexp, hact, hpbuf⟩ :=
    decodeDependsOnCountedCharsOnly s u hcount fun i _ => by rw [hbuf]
  have hframe {s t : State} (ht : exec .decode s = .next t) : t = s.withDecodeOutputs t := by
    obtain ⟨t', ht', hframe, -⟩ := decodeFrameAndNoBestGuess s
    cases ht.symm.trans ht'
    exact hframe
  refine ⟨t, ht, hframe ht, hv.trans (congrArg _ ((hframe hv).trans ?_))⟩
  rw [State.withDecodeOutputs, ← hresult, ← hcause, ← hvalid, ← hlen, ← hfields, ← hexp, ← hact, ← hpbuf]
  rfl

/-- `s` with the registers and buffers that commands write as they are in `t` (R22): STATUS, the outputs of ENCODE and DECODE, the
checksums and CRC_ACC. -/
def State.withCommandOutputs (s t : State) : State :=
  { s.withDecodeOutputs t with encCrc := t.encCrc, txCount := t.txCount, txbuf := t.txbuf, crcAcc := t.crcAcc }

/-- Every command completes, and it changes none of the host-written inputs and nothing on the host's side. -/
theorem exec_command_frame (c : Command) (s : State) :
    ∃ t, exec c.toInstr s = .next t ∧ t = s.withCommandOutputs t := by
  cases c with
  | decode =>
    obtain ⟨t, ht, hframe, -⟩ := exec_decode_of_same_chars (s := s) rfl rfl
    refine ⟨t, ht, ?_⟩
    rw [hframe]
    rfl
  | crcCheck => exact ⟨_, exec_crcCheck s, rfl⟩
  | nop | encode | crcInit | crcByte | clear => exact ⟨_, rfl, rfl⟩

/-- What no command writes: the host-written inputs (R68), and what stands on the host's side. -/
theorem inputs_of_frame {s t : State} (h : t = s.withCommandOutputs t) :
    t.encIn = s.encIn ∧ t.rxCount = s.rxCount ∧ t.crcDin = s.crcDin ∧ t.crcCmp = s.crcCmp ∧ t.rxbuf = s.rxbuf ∧
      t.hostFaults = s.hostFaults ∧ t.hostQueue = s.hostQueue ∧ t.resetCount = s.resetCount := by
  rw [h]
  exact ⟨rfl, rfl, rfl, rfl, rfl, rfl, rfl, rfl⟩

theorem exec_completes (i : Instr) (s : State) : ∃ t, exec i s = .next t := by
  cases exec_cases i with
  | command c hc =>
    obtain ⟨t, ht, -⟩ := exec_command_frame c s
    exact ⟨t, (exec_of_runsCommand hc s).trans ht⟩
  | illegal _ _ _ hrun | rejectedWrite _ _ _ _ hrun | store _ _ _ _ _ hrun | rejectedRead _ _ _ hrun
  | read _ _ hrun => exact ⟨_, hrun s⟩

/-- R41: what each command does to DEC_VALID. -/
theorem exec_command_decValid (c : Command) (s : State) :
    ∃ t, exec c.toInstr s = .next t ∧ (c = .decode → (t.statusDecValid = true ↔ t.statusResult = 0)) ∧
      (c = .clear → t.statusDecValid = false) ∧ (c ≠ .decode → c ≠ .clear → t.statusDecValid = s.statusDecValid) := by
  cases c with
  | decode =>
    rcases exec_decode_cases s with
      ⟨-, hrun⟩ | ⟨-, -, ⟨_, -, hrun⟩ | ⟨_, _, -, hrun⟩ | ⟨_, _, _, _, -, hrun⟩⟩
    · exact ⟨_, hrun, fun _ => by simp, nofun, fun h => absurd rfl h⟩
    · exact ⟨_, hrun, fun _ => by simp, nofun, fun h => absurd rfl h⟩
    · exact ⟨_, hrun, fun _ => by simp, nofun, fun h => absurd rfl h⟩
    · exact ⟨_, hrun, fun _ => iff_of_true rfl rfl, nofun, fun h => absurd rfl h⟩
  | clear => exact ⟨_, exec_clear s, nofun, fun _ => rfl, fun _ h => absurd rfl h⟩
  | crcCheck => exact ⟨_, exec_crcCheck s, nofun, nofun, fun _ _ => rfl⟩
  | nop | encode | crcInit | crcByte => exact ⟨_, rfl, nofun, nofun, fun _ _ => rfl⟩

/-- R41: a command does the same in two states that differ in STATUS alone, and all but NOP write RESULT and FCAUSE anew. -/
theorem exec_command_agreeButStatus (c : Command) {s u : State} (h : s.agreeButStatus u) :
    ∃ t v, exec c.toInstr s = .next t ∧ exec c.toInstr u = .next v ∧ t.agreeButStatus v ∧
      (c ≠ .nop → t.statusResult = v.statusResult ∧ t.statusFcause = v.statusFcause) := by
  obtain ⟨r, f, d, rfl⟩ : ∃ r f d, u = { s with statusResult := r, statusFcause := f, statusDecValid := d } :=
    ⟨_, _, _, h⟩
  cases c with
  | nop => exact ⟨_, _, rfl, rfl, rfl, fun h => absurd rfl h⟩
  | decode =>
    obtain ⟨t, ht, hframe, hu⟩ := exec_decode_of_same_chars (s := s)
      (u := { s with statusResult := r, statusFcause := f, statusDecValid := d }) rfl rfl
    refine ⟨t, _, ht, hu, ?_, fun _ => ⟨rfl, rfl⟩⟩
    rw [hframe]
    rfl
  | crcCheck => exact ⟨_, _, exec_crcCheck _, exec_crcCheck _, rfl, fun _ => ⟨rfl, rfl⟩⟩
  | encode | crcInit | crcByte | clear => exact ⟨_, _, rfl, rfl, rfl, fun _ => ⟨rfl, rfl⟩⟩

/-- A command keeps the coming events and the reset count, and with others in their place it does the same. -/
theorem exec_command_hostQueue (c : Command) (s : State) (q : List HostEvent) (k : Nat) :
    ∃ t, exec c.toInstr s = .next t ∧ t.hostQueue = s.hostQueue ∧ t.resetCount = s.resetCount ∧
      exec c.toInstr { s with hostQueue := q, resetCount := k } = .next { t with hostQueue := q, resetCount := k } := by
  cases c with
  | decode =>
    obtain ⟨t, ht, hframe, hu⟩ :=
      exec_decode_of_same_chars (s := s) (u := { s with hostQueue := q, resetCount := k }) rfl rfl
    refine ⟨t, ht, ?_⟩
    rw [Command.toInstr, hu, hframe]
    exact ⟨rfl, rfl, rfl⟩
  | crcCheck => exact ⟨_, exec_crcCheck s, rfl, rfl, exec_crcCheck _⟩
  | nop | encode | crcInit | crcByte | clear => exact ⟨_, rfl, rfl, rfl, rfl⟩

/-- R192: an instruction that adds to the record of faults adds one, of its own direction and address, and does nothing else. -/
theorem exec_hostFaults (i : Instr) (s : State) :
    ∃ t, exec i s = .next t ∧
      (t.hostFaults = s.hostFaults ∨
        ∃ f, t.hostFaults = s.hostFaults ++ [f] ∧ t = { s with hostFaults := t.hostFaults, readData := t.readData } ∧
          (i = .hostRead f.addr ∧ f.dir = .read ∨ ∃ v, i = .hostWrite f.addr v ∧ f.dir = .write)) := by
  cases exec_cases i with
  | command c hc =>
    obtain ⟨t, ht, hframe⟩ := exec_command_frame c s
    obtain ⟨-, -, -, -, -, hfaults, -⟩ := inputs_of_frame hframe
    exact ⟨t, (exec_of_runsCommand hc s).trans ht, .inl hfaults⟩
  | illegal _ _ _ hrun => exact ⟨_, hrun s, .inl rfl⟩
  | rejectedWrite a v _ hi hrun => exact ⟨_, hrun s, .inr ⟨⟨.write, a⟩, rfl, rfl, .inr ⟨v, hi, rfl⟩⟩⟩
  | store _ input _ _ _ hrun => exact ⟨_, hrun s, .inl (by cases input <;> rfl)⟩
  | rejectedRead a _ hi hrun => exact ⟨_, hrun s, .inr ⟨⟨.read, a⟩, rfl, rfl, .inl ⟨hi, rfl⟩⟩⟩
  | read _ _ hrun => exact ⟨_, hrun s, .inl rfl⟩

/-- R68: a store into one location leaves the inputs of the others. -/
theorem storeInput_other {l : Location} {input : HostInput} (hl : l.writeEffect = .stores input) (v : Word) (s : State) :
    (l ≠ .encIn → (storeInput input v s).encIn = s.encIn) ∧
      (l ≠ .rxCount → (storeInput input v s).rxCount = s.rxCount) ∧
      (l ≠ .crcDin → (storeInput input v s).crcDin = s.crcDin) ∧
      (l ≠ .crcCmp → (storeInput input v s).crcCmp = s.crcCmp) ∧
      ∀ j : Fin 528, l ≠ .rxbuf j → (storeInput input v s).rxbuf[j] = s.rxbuf[j] := by
  cases l <;> cases hl
  case encIn.refl => exact ⟨fun h => absurd rfl h, fun _ => rfl, fun _ => rfl, fun _ => rfl, fun _ _ => rfl⟩
  case rxCount.refl => exact ⟨fun _ => rfl, fun h => absurd rfl h, fun _ => rfl, fun _ => rfl, fun _ _ => rfl⟩
  case crcDin.refl => exact ⟨fun _ => rfl, fun _ => rfl, fun h => absurd rfl h, fun _ => rfl, fun _ _ => rfl⟩
  case crcCmp.refl => exact ⟨fun _ => rfl, fun _ => rfl, fun _ => rfl, fun h => absurd rfl h, fun _ _ => rfl⟩
  case rxbuf.refl i =>
    refine ⟨fun _ => rfl, fun _ => rfl, fun _ => rfl, fun _ => rfl, fun j hne => ?_⟩
    have hij : i.val ≠ j.val := fun h => hne (congrArg Location.rxbuf (Fin.ext h))
    simp [hij]

/-! ### The statements -/

/-- Settles O9: the four ways of a step, of which only an instruction is more than one update. -/
theorem everyStepCompletes : Obligations.EveryStepCompletes := by
  intro s
  rcases step_cases s with ⟨-, h⟩ | ⟨_, -, h⟩ | ⟨_, rest, i, -, -, h⟩ | ⟨_, _, _, -, -, h⟩
  · exact ⟨_, h⟩
  · exact ⟨_, h⟩
  · rw [h]
    exact exec_completes i _
  · exact ⟨_, h⟩

/-- Settles O15: a command changes no input, and a store changes the input of its own address. -/
theorem inputsChangeOnlyByHostWrite : Obligations.InputsChangeOnlyByHostWrite := by
  intro i s
  cases exec_cases i with
  | command c hc =>
    obtain ⟨t, ht, hframe⟩ := exec_command_frame c s
    obtain ⟨hencIn, hrxCount, hcrcDin, hcrcCmp, hrxbuf, -⟩ := inputs_of_frame hframe
    exact ⟨t, (exec_of_runsCommand hc s).trans ht, fun _ => hencIn, fun _ => hrxCount, fun _ => hcrcDin,
      fun _ => hcrcCmp, fun j _ => by rw [hrxbuf]⟩
  | store l input v hl hi hrun =>
    obtain ⟨hencIn, hrxCount, hcrcDin, hcrcCmp, hrxbuf⟩ := storeInput_other hl v s
    have hother (m : Location) (hne : ∀ v, i ≠ .hostWrite m.offset v) : l ≠ m := fun h => hne v (h ▸ hi)
    exact ⟨_, hrun s, fun hne => hencIn (hother .encIn hne), fun hne => hrxCount (hother .rxCount hne),
      fun hne => hcrcDin (hother .crcDin hne), fun hne => hcrcCmp (hother .crcCmp hne),
      fun j hne => hrxbuf j (hother (.rxbuf j) hne)⟩
  | illegal _ _ _ hrun | rejectedWrite _ _ _ _ hrun | rejectedRead _ _ _ hrun | read _ _ hrun =>
    exact ⟨_, hrun s, fun _ => rfl, fun _ => rfl, fun _ => rfl, fun _ => rfl, fun _ _ => rfl⟩

/-- Settles O16: the rule of the commands, and no other instruction touches DEC_VALID. -/
theorem decValidRule : Obligations.DecValidRule := by
  intro i s
  cases exec_cases i with
  | command c hc =>
    obtain ⟨t, ht, hdecode, hclear, hother⟩ := exec_command_decValid c s
    refine ⟨t, (exec_of_runsCommand hc s).trans ht, fun hi => hdecode ?_, fun hi => hclear ?_,
      fun hd hcl hwd hwcl => hother ?_ ?_⟩
    · exact runsCommand_inj hc (.inl hi)
    · exact runsCommand_inj hc (.inl hi)
    · rintro rfl
      exact hc.elim hd hwd
    · rintro rfl
      exact hc.elim hcl hwcl
  | store _ input _ _ hi hrun =>
    subst hi
    exact ⟨_, hrun s, nofun, nofun, fun _ _ _ _ => by cases input <;> rfl⟩
  | illegal _ _ hi hrun | rejectedWrite _ _ _ hi hrun | rejectedRead _ _ hi hrun | read _ hi hrun =>
    subst hi
    exact ⟨_, hrun s, nofun, nofun, fun _ _ _ _ => rfl⟩

/-- Settles O17: the rule of the commands; the other instructions but a HOST_READ read no register. -/
theorem statusIsNeverRead : Obligations.StatusIsNeverRead := by
  intro s u i hsu hread
  cases exec_cases i with
  | command c hc =>
    obtain ⟨t, v, ht, hv, hagree, hsame⟩ := exec_command_agreeButStatus c hsu
    refine ⟨t, v, (exec_of_runsCommand hc s).trans ht, (exec_of_runsCommand hc u).trans hv, hagree, fun hi => hsame ?_⟩
    rintro rfl
    rcases hc with rfl | rfl <;> simp [Command.toInstr] at hi
  | illegal _ _ hi hrun =>
    subst hi
    exact ⟨_, _, hrun s, hrun u, by rw [hsu]; rfl, fun _ => ⟨rfl, rfl⟩⟩
  | rejectedWrite _ _ _ hi hrun =>
    subst hi
    exact ⟨_, _, hrun s, hrun u, by rw [hsu]; rfl, by simp⟩
  | store _ input _ _ hi hrun =>
    subst hi
    exact ⟨_, _, hrun s, hrun u, by rw [hsu]; cases input <;> rfl, by simp⟩
  | rejectedRead a _ hi => exact absurd hi (hread a)
  | read l hi => exact absurd hi (hread l.offset)

/-- Settles O18: an instruction adds at most one fault, and nothing else touches the record. -/
theorem hostFaultsOnlyGrow : Obligations.HostFaultsOnlyGrow := by
  intro s
  rcases step_cases s with ⟨-, h⟩ | ⟨_, -, h⟩ | ⟨_, rest, i, -, -, h⟩ | ⟨_, _, _, -, -, h⟩
  · exact ⟨_, h, List.prefix_rfl, Nat.le_succ _⟩
  · exact ⟨_, h, List.prefix_rfl, Nat.le_succ _⟩
  · obtain ⟨t, ht, hsame | ⟨f, hadd, -⟩⟩ := exec_hostFaults i { s with hostQueue := rest }
    · exact ⟨t, h.trans ht, hsame ▸ List.prefix_rfl, by simp [hsame]⟩
    · exact ⟨t, h.trans ht, hadd ▸ List.prefix_append _ _, by simp [hadd]⟩
  · exact ⟨_, h, List.prefix_rfl, Nat.le_succ _⟩

/-- Settles O19: the instruction whose record differs is the one that added a fault. -/
theorem rejectedAccessChangesNoRegister : Obligations.RejectedAccessChangesNoRegister := by
  intro i s
  obtain ⟨t, ht, hsame | ⟨f, hadd, hframe, hi⟩⟩ := exec_hostFaults i s
  · exact ⟨t, ht, fun hne => absurd hsame hne⟩
  · exact ⟨t, ht, fun _ => ⟨hframe, f, hadd, hi⟩⟩

/-- Settles O20: the rule of the commands; the other instructions do not see the two fields at all. -/
theorem execIgnoresComingEvents : Obligations.ExecIgnoresComingEvents := by
  intro i s q k
  cases exec_cases i with
  | command c hc =>
    obtain ⟨t, ht, hqueue, hcount, hother⟩ := exec_command_hostQueue c s q k
    exact ⟨t, (exec_of_runsCommand hc s).trans ht, hqueue, hcount, (exec_of_runsCommand hc _).trans hother⟩
  | store _ input _ _ _ hrun =>
    cases input <;> exact ⟨_, hrun s, rfl, rfl, hrun _⟩
  | read l _ hrun =>
    have hword : readLocation l { s with hostQueue := q, resetCount := k } = readLocation l s := by cases l <;> rfl
    exact ⟨_, hrun s, rfl, rfl, by rw [hrun, hword]; rfl⟩
  | illegal _ _ _ hrun | rejectedWrite _ _ _ _ hrun | rejectedRead _ _ _ hrun =>
    exact ⟨_, hrun s, rfl, rfl, hrun _⟩

/-- Settles O39: ENCODE's outputs come from ENC_IN, and DECODE's from RX_COUNT and RXBUF. -/
theorem frameCommandsIgnoreCrcEngine : Obligations.FrameCommandsIgnoreCrcEngine := by
  rintro s acc cmp din i (rfl | rfl)
  · exact ⟨_, exec_encode s, rfl, rfl, rfl, rfl⟩
  · obtain ⟨t, ht, hframe, hu⟩ :=
      exec_decode_of_same_chars (s := s) (u := { s with crcAcc := acc, crcDin := din, crcCmp := cmp }) rfl rfl
    refine ⟨t, ht, ?_⟩
    rw [hu, hframe]
    exact ⟨rfl, rfl, rfl, rfl⟩

end Sys2Proof.Machine
end

section
/-!
PROOFS. The invariant of the registers (spec/10_state.md R24 to R30, spec/60_exceptions.md R190, R191): each named update keeps it, so
every instruction and every step does, and the statements O13 and O14.
-/

namespace Sys2Proof.Machine

/-! ### The updates keep the invariant -/

section
variable {s : State}

/-- R190, R191: an outcome with a cause exactly for a framing error. -/
theorem State.Consistent.setOutcome {r : ResultCode} {c : FCause} (hs : s.Consistent)
    (h : c ≠ .none ↔ r = .framingError) : (setOutcome r c s).Consistent where
  __ := hs
  result_legal := by
    show r.code.toNat ≤ 4
    cases r <;> decide
  cause_iff_framing := by
    have hcause : c.code ≠ 0 ↔ c ≠ .none := by cases c <;> decide
    have hresult : r.code = 1 ↔ r = .framingError := by cases r <;> decide
    exact (hcause.trans h).trans hresult.symm

theorem State.Consistent.setOk (hs : s.Consistent) : (setOk s).Consistent := hs.setOutcome (by decide)

/-- R130: TXBUF and ENC_CRC hold the frame of three bytes and its checksum. -/
theorem State.Consistent.writeEncodeOutputs (hs : s.Consistent) (op reg val : Byte) :
    (writeEncodeOutputs (frameText [op, reg, val]) (crc32 [op, reg, val]) s).Consistent where
  __ := hs
  encode_outputs := .inr ⟨rfl, op, reg, val, fillBuffer_toList (by simp), rfl⟩

theorem State.Consistent.clearEncodeOutputs (hs : s.Consistent) : (clearEncodeOutputs s).Consistent where
  __ := hs
  encode_outputs := .inl ⟨rfl, rfl, rfl⟩

theorem State.Consistent.clearDecodeOutputs (hs : s.Consistent) : (clearDecodeOutputs s).Consistent where
  __ := hs
  decode_cleared := fun _ => ⟨rfl, rfl, rfl⟩
  payload_tail := fun _ _ => Vector.getElem_replicate _
  fields_packed := by simp

/-- R29, R39: DEC_LEN is the number of payload bytes, and PBUF is 0 past them. -/
theorem State.Consistent.writeDecodedFields (hs : s.Consistent) {len : Byte} {payload : List Byte}
    (hlen : len.toNat = payload.length) : (writeDecodedFields len payload s).Consistent where
  __ := hs
  decode_cleared := fun h => absurd h (by simp)
  payload_tail := fun j hj => by
    have hpast : payload.length ≤ j.val := hlen ▸ hj
    simp [hpast]
  fields_packed := rfl

theorem State.Consistent.writeChecksums (hs : s.Consistent) (expected actual : Word) :
    (writeChecksums expected actual s).Consistent where
  __ := hs

theorem State.Consistent.setCrcAcc (hs : s.Consistent) (c : Word) : (setCrcAcc c s).Consistent where
  __ := hs

theorem State.Consistent.storeInput (hs : s.Consistent) (input : HostInput) (v : Word) :
    (storeInput input v s).Consistent := by
  cases input <;> exact { hs with }

theorem State.Consistent.raiseHostAccessFault (hs : s.Consistent) (d : Direction) (a : HAddr) :
    (raiseHostAccessFault d a s).Consistent where
  __ := hs

theorem State.Consistent.returnData (hs : s.Consistent) (d : Option Word) : (returnData d s).Consistent where
  __ := hs

theorem State.Consistent.withQueue (hs : s.Consistent) (q : List HostEvent) :
    State.Consistent { s with hostQueue := q } where
  __ := hs

end

/-- A state with no outcome and no output standing. -/
theorem consistent_of_cleared {s : State} (hresult : s.statusResult = 0) (hcause : s.statusFcause = 0)
    (hencode : s.txCount = 0 ∧ s.encCrc = 0 ∧ s.txbuf = Vector.replicate 24 0)
    (hdecode : s.decLen = 0 ∧ s.decFields = 0 ∧ s.pbuf = Vector.replicate 255 0) : s.Consistent where
  result_legal := by simp [hresult]
  cause_iff_framing := by simp [hresult, hcause]
  encode_outputs := .inl hencode
  decode_cleared := fun _ => hdecode
  payload_tail := fun _ _ => by simp [hdecode]
  fields_packed := by simp [hdecode]

/-- R210: the reset values. -/
theorem consistent_reset : State.reset.Consistent :=
  consistent_of_cleared rfl rfl ⟨rfl, rfl, rfl⟩ ⟨rfl, rfl, rfl⟩

theorem consistent_resetBlock (s : State) : (resetBlock s).Consistent :=
  consistent_of_cleared rfl rfl ⟨rfl, rfl, rfl⟩ ⟨rfl, rfl, rfl⟩

/-! ### The instructions keep the invariant -/

/-- R191: each framing check that fails gives its own cause. -/
theorem judgeFrame_cause_ne_none {c : List Byte} {cause : FCause} (h : judgeFrame c = .framingError cause) :
    cause ≠ .none := by
  rintro rfl
  rcases judgeFrame_cases c with ⟨-, hj⟩ | ⟨-, -, ⟨-, hj⟩ | ⟨-, ⟨-, hj⟩ | ⟨-, -, -, hbody⟩⟩⟩
  · simp [hj] at h
  · simp [hj] at h
  · simp [hj] at h
  rw [hbody] at h
  rcases judgeBody_cases c (hexPair (charAt c 4) (charAt c 5)) with
    ⟨-, hj⟩ | ⟨-, hj⟩ | ⟨-, ⟨-, hj⟩ | ⟨-, ⟨-, hj⟩ | ⟨-, hcheck⟩⟩⟩
  · simp [hj] at h
  · simp [hj] at h
  · simp [hj] at h
  · simp [hj] at h
  rw [hcheck] at h
  rcases judgeChecksum_cases c (hexPair (charAt c 4) (charAt c 5)) with ⟨-, hj⟩ | ⟨-, hj⟩
  · simp [hj] at h
  · simp [hj] at h

/-- What DECODE records over cleared outputs, whatever it finds of the candidate. -/
theorem consistent_recordFrameOutcome {s : State} (hs : s.Consistent) (c : List Byte) :
    (recordFrameOutcome (judgeFrame c) s).Consistent := by
  cases hj : judgeFrame c with
  | framingError cause => exact hs.setOutcome (iff_of_true (judgeFrame_cause_ne_none hj) rfl)
  | checksumMismatch expected actual => exact (hs.writeChecksums expected actual).setOutcome (by decide)
  | accepted len p expected actual =>
    obtain ⟨⟨hp, -⟩, rfl, -, -⟩ := judgeFrame_accepted_iff.1 hj
    exact ((hs.writeChecksums expected actual).writeDecodedFields (toNat_ofNat_length hp)).setOk

theorem exec_command_consistent (c : Command) {s : State} (hs : s.Consistent) :
    ∃ t, exec c.toInstr s = .next t ∧ t.Consistent := by
  cases c with
  | nop => exact ⟨_, exec_nop s, hs⟩
  | encode => exact ⟨_, exec_encode s, (hs.writeEncodeOutputs (encOp s) (encReg s) (encVal s)).setOk⟩
  | decode =>
    rcases execDecode_cases s with ⟨-, h⟩ | ⟨-, h⟩
    · exact ⟨_, h, hs.clearDecodeOutputs.setOutcome (by decide)⟩
    · exact ⟨_, h, consistent_recordFrameOutcome hs.clearDecodeOutputs _⟩
  | crcInit => exact ⟨_, exec_crcInit s, (hs.setCrcAcc _).setOk⟩
  | crcByte => exact ⟨_, exec_crcByte s, (hs.setCrcAcc _).setOk⟩
  | crcCheck => exact ⟨_, exec_crcCheck s, (hs.writeChecksums _ _).setOutcome (by split <;> decide)⟩
  | clear => exact ⟨_, exec_clear s, (hs.clearEncodeOutputs.clearDecodeOutputs.setCrcAcc _).setOk⟩

theorem exec_consistent (i : Instr) {s : State} (hs : s.Consistent) : ∃ t, exec i s = .next t ∧ t.Consistent := by
  cases exec_cases i with
  | command c hc =>
    obtain ⟨t, ht, hcons⟩ := exec_command_consistent c hs
    exact ⟨t, (exec_of_runsCommand hc s).trans ht, hcons⟩
  | illegal _ _ _ hrun => exact ⟨_, hrun s, hs.setOutcome (by decide)⟩
  | rejectedWrite a _ _ _ hrun => exact ⟨_, hrun s, hs.raiseHostAccessFault .write a⟩
  | store _ input v _ _ hrun => exact ⟨_, hrun s, hs.storeInput input v⟩
  | rejectedRead a _ _ hrun => exact ⟨_, hrun s, (hs.raiseHostAccessFault .read a).returnData none⟩
  | read _ _ hrun => exact ⟨_, hrun s, hs.returnData _⟩

/-! ### The statements -/

/-- Settles O14: the reset values meet the invariant. -/
theorem resetIsConsistent : Obligations.ResetIsConsistent := consistent_reset

/-- Settles O13: a step idles, resets, runs an instruction or ends in ILLEGAL_COMMAND, and each keeps the invariant. -/
theorem stepKeepsConsistent : Obligations.StepKeepsConsistent := by
  intro s hs
  rcases step_cases s with ⟨-, h⟩ | ⟨rest, -, h⟩ | ⟨_, rest, i, -, -, h⟩ | ⟨_, rest, _, -, -, h⟩
  · exact ⟨s, h, hs⟩
  · exact ⟨_, h, consistent_resetBlock _⟩
  · rw [h]
    exact exec_consistent i (hs.withQueue rest)
  · exact ⟨_, h, (hs.withQueue rest).setOutcome (by decide)⟩

end Sys2Proof.Machine
end

section
/-!
PROOFS. The checksum function (spec/40_crc.md R110 to R114): it is linear over xor, and it is the mirror image of the catalogue's
unreflected form. With the facts proved above on hex digits and on single bytes, the statements O30 to O34.
-/

namespace Sys2Proof.Machine

/-! ### Linearity -/

theorem crcShift_xor (t u : Word) : crcShift (t ^^^ u) = crcShift t ^^^ crcShift u := by
  have hpoly (a b : Bool) (p : Word) :
      (if a ^^ b then p else 0) = (if a then p else 0) ^^^ (if b then p else 0) := by cases a <;> cases b <;> simp
  simp only [crcShift_eq_xor, BitVec.ushiftRight_xor_distrib, BitVec.getLsbD_xor, hpoly]
  ac_rfl

theorem crcShifts_xor (n : Nat) (t u : Word) : crcShifts n (t ^^^ u) = crcShifts n t ^^^ crcShifts n u := by
  induction n generalizing t u with
  | zero => rfl
  | succ n ih => rw [crcShifts, crcShift_xor, ih]; rfl

/-! ### The catalogue's form, mirrored -/

theorem reverse_xor (x y : Word) : (x ^^^ y).reverse = x.reverse ^^^ y.reverse := by
  apply BitVec.eq_of_getLsbD_eq
  intro i hi
  simp [BitVec.getLsbD_reverse]

theorem reverse_shiftLeft_one (x : Word) : (x <<< 1).reverse = x.reverse >>> 1 := by
  apply BitVec.eq_of_getLsbD_eq
  intro i hi
  rw [BitVec.getLsbD_reverse, BitVec.getLsbD_ushiftRight, BitVec.getLsbD_reverse, BitVec.getMsbD_shiftLeft, Nat.add_comm]

theorem crcShift_reverse (t : Word) : crcShift t.reverse = (msbShift t).reverse := by
  have hpoly : (0x04C11DB7 : Word).reverse = 0xEDB88320 := by decide +kernel
  have hbit : t.reverse.getLsbD 0 = t.msb := by rw [BitVec.getLsbD_reverse, BitVec.msb]
  rw [crcShift, msbShift, hbit]
  split
  · rw [reverse_xor, reverse_shiftLeft_one, hpoly]
  · rw [reverse_shiftLeft_one]

theorem crcShifts_reverse (n : Nat) (t : Word) : crcShifts n t.reverse = (msbShifts n t).reverse := by
  induction n generalizing t with
  | zero => rfl
  | succ n ih => rw [crcShifts, crcShift_reverse, ih]; rfl

/-- A byte enters the reflected register at its bottom where its mirror image enters the other at its top. -/
theorem reverse_byte_append (b : Byte) : (b.reverse ++ (0 : BitVec 24)).reverse = b.setWidth 32 := by
  apply BitVec.eq_of_getLsbD_eq
  intro i hi
  have hi : i < 32 := hi
  rw [BitVec.getLsbD_reverse, BitVec.getMsbD_append]
  split
  · simp [BitVec.getLsbD_of_ge b i ‹_›]
  · simp [BitVec.getMsbD_reverse, hi]

theorem crcStep_reverse (c : Word) (b : Byte) : crcStep c.reverse b = (msbStep c b.reverse).reverse := by
  rw [msbStep, ← crcShifts_reverse, reverse_xor, reverse_byte_append]
  rfl

theorem foldl_crcStep_reverse (p : List Byte) (c : Word) :
    p.foldl crcStep c.reverse = ((p.map BitVec.reverse).foldl msbStep c).reverse := by
  induction p generalizing c with
  | nil => rfl
  | cons b p ih => rw [List.foldl_cons, crcStep_reverse, ih]; rfl

/-! ### The statements -/

/-- Settles O30, by evaluating both sides on each of the 256 bytes. -/
theorem hexDigitSet : Obligations.HexDigitSet := by
  unfold Obligations.HexDigitSet
  decide +kernel

/-- Settles O31: the digits by their 16 values, and the fields by the digits they are made of. -/
theorem hexFieldsReadBack : Obligations.HexFieldsReadBack := by
  have hdigits : ∀ n : BitVec 4, hexChar n = charAt (asciiBytes "0123456789ABCDEF") n.toNat := by decide +kernel
  exact ⟨fun n => ⟨hdigits n, hexVal_hexChar n⟩, fun v => unhex_payloadText [v], unhex_payloadText,
    fun w => ⟨hexNumber_hex8 w, hex8_length w, List.all_eq_true.2 (forall_mem_hex8 isHex_hexChar w)⟩⟩

/-- Settles O32: the register of R110 is at every byte the mirror image of the catalogue's, and starts as its mirror image. -/
theorem crcIsCatalogueCrc : Obligations.CrcIsCatalogueCrc := by
  intro p
  have hstart : (0xFFFFFFFF : Word).reverse = 0xFFFFFFFF := by decide +kernel
  rw [crc32, crcRegister, catalogueCrc32, ← foldl_crcStep_reverse, hstart]

/-- Settles O33: a byte enters by xor, and each turn is linear. -/
theorem crcStepIsLinear : Obligations.CrcStepIsLinear := by
  refine ⟨fun c c' b b' => ?_, rfl⟩
  rw [crcStep, crcStep, crcStep, ← crcShifts_xor, BitVec.setWidth_xor]
  congr 1
  ac_rfl

/-- Settles O34: the checksum is injective in each one byte. -/
theorem crcDetectsOneByte : Obligations.CrcDetectsOneByte := fun p q _ _ hne =>
  (crc32_append_cons_injective p q).ne hne

end Sys2Proof.Machine
end

section
/-!
PROOFS. The CRC engine over a step and over a run (spec/40_crc.md section 2, R119): which events run which command, what a step does
to CRC_ACC, and the statements O38 and O54.
-/

namespace Sys2Proof.Machine

/-! ### Events and commands -/

/-- An event writes a command's word exactly where the word it presents decodes to an instruction that runs the command. -/
theorem writesCommand_iff {c : Command} {w : RawWord} :
    writesCommand c.word (.present w) = true ↔ ∃ i, decode w = .ok i ∧ runsCommand i c := by
  cases w with
  | cmdw v =>
    simp only [writesCommand, beq_iff_eq]
    refine ⟨fun h => ⟨c.toInstr, h ▸ decode_command_word c, .inl rfl⟩, fun ⟨i, hi, hc⟩ => ?_⟩
    have hword := decodeThenEncode.1 v i hi
    rcases hc with rfl | rfl
    · rw [encode_command] at hword
      exact (RawWord.cmdw.inj hword).symm
    · nomatch hword
  | bus t =>
    simp only [writesCommand, beq_iff_eq, ← decodeBus_eq_hostWrite_iff]
    refine ⟨fun h => ⟨_, congrArg Except.ok h, .inr rfl⟩, fun ⟨i, hi, hc⟩ => ?_⟩
    cases hi
    have hrow : decodeBus t ≠ c.toInstr := fun h => nomatch
      (encode_decodeBus t).symm.trans ((congrArg encode h).trans (encode_command c))
    exact hc.resolve_left hrow

theorem restartsCrc_present_iff {w : RawWord} :
    restartsCrc (.present w) = true ↔
      ∃ i, decode w = .ok i ∧ (runsCommand i .crcInit ∨ runsCommand i .clear) := by
  have hinit : writesCommand 0x03 (.present w) = true ↔ _ := writesCommand_iff (c := .crcInit)
  have hclear : writesCommand 0x06 (.present w) = true ↔ _ := writesCommand_iff (c := .clear)
  simp only [restartsCrc, Bool.or_eq_true, hinit, hclear, and_or_left, exists_or]
  simp

theorem feedsNext_iff {s : State} {w : RawWord} {rest : List HostEvent} (hq : s.hostQueue = .present w :: rest) :
    feedsNext s = true ↔ ∃ i, decode w = .ok i ∧ runsCommand i .crcByte := by
  rw [feedsNext, hq]
  exact writesCommand_iff (c := .crcByte)

/-! ### CRC_ACC over a step -/

/-- R115 to R118: only CRC_INIT, CRC_BYTE and CLEAR write CRC_ACC. -/
theorem exec_crcAcc_of_other {i : Instr} (hinit : ¬ runsCommand i .crcInit) (hbyte : ¬ runsCommand i .crcByte)
    (hclear : ¬ runsCommand i .clear) (s : State) : ∃ t, exec i s = .next t ∧ t.crcAcc = s.crcAcc := by
  cases exec_cases i with
  | command c hc =>
    rw [exec_of_runsCommand hc]
    cases c with
    | crcInit => exact absurd hc hinit
    | crcByte => exact absurd hc hbyte
    | clear => exact absurd hc hclear
    | decode =>
      obtain ⟨t, ht, hframe, -⟩ := exec_decode_of_same_chars (s := s) rfl rfl
      exact ⟨t, ht, by rw [hframe]; rfl⟩
    | crcCheck => exact ⟨_, exec_crcCheck s, rfl⟩
    | nop | encode => exact ⟨_, rfl, rfl⟩
  | store _ input _ _ _ hrun => exact ⟨_, hrun s, by cases input <;> rfl⟩
  | illegal _ _ _ hrun | rejectedWrite _ _ _ _ hrun | rejectedRead _ _ _ hrun | read _ _ hrun =>
    exact ⟨_, hrun s, rfl⟩

theorem crcOut_eq_crc32_iff {s : State} {p : List Byte} : crcOut s = crc32 p ↔ s.crcAcc = crcRegister p :=
  BitVec.xor_left_inj _

theorem crcRegister_append_singleton (p : List Byte) (b : Byte) :
    crcRegister (p ++ [b]) = crcStep (crcRegister p) b := List.foldl_append

/-- R33: a step that starts no new CRC takes CRC_ACC one byte further where it is a CRC_BYTE, and otherwise leaves it. -/
theorem step_crcAcc {s : State} {p : List Byte} (hacc : s.crcAcc = crcRegister p)
    (hnext : ∀ e ∈ s.hostQueue.head?, restartsCrc e = false) :
    ∃ t, step s = .next t ∧ t.crcAcc = crcRegister (p ++ if feedsNext s then [s.crcDin] else []) := by
  rcases step_cases s with ⟨hq, h⟩ | ⟨_, hq, -⟩ | ⟨w, rest, i, hq, hi, h⟩ | ⟨w, rest, e, hq, he, h⟩
  · exact ⟨s, h, by simp [feedsNext, hq, hacc]⟩
  · exact absurd (hnext .reset (by simp [hq])) (by simp [restartsCrc])
  · have hother : ¬ (runsCommand i .crcInit ∨ runsCommand i .clear) := fun hc =>
      absurd (restartsCrc_present_iff.2 ⟨i, hi, hc⟩) (by simp [hnext (.present w) (by simp [hq])])
    rw [not_or] at hother
    rw [h]
    by_cases hbyte : runsCommand i .crcByte
    · rw [exec_of_runsCommand hbyte, if_pos ((feedsNext_iff hq).2 ⟨i, hi, hbyte⟩), crcRegister_append_singleton, ← hacc]
      exact ⟨_, exec_crcByte _, rfl⟩
    · have hfeeds : ¬ feedsNext s = true := fun hf => by
        obtain ⟨j, hj, hc⟩ := (feedsNext_iff hq).1 hf
        cases hi.symm.trans hj
        exact hbyte hc
      rw [if_neg hfeeds, List.append_nil, ← hacc]
      exact exec_crcAcc_of_other hother.1 hbyte hother.2 { s with hostQueue := rest }
  · have hfeeds : ¬ feedsNext s = true := fun hf => by
      obtain ⟨j, hj, -⟩ := (feedsNext_iff hq).1 hf
      cases he.symm.trans hj
    rw [if_neg hfeeds, List.append_nil, ← hacc]
    exact ⟨_, h, rfl⟩

/-- R115, R171, R210: the events that start a new CRC. -/
theorem step_restart {e : HostEvent} (he : restartsCrc e = true) (s : State) (q : List HostEvent) :
    ∃ t, step { s with hostQueue := e :: q } = .next t ∧ t.hostQueue = q ∧ t.crcAcc = crcRegister [] := by
  cases e with
  | reset => exact ⟨_, step_reset s q, rfl, rfl⟩
  | present w =>
    obtain ⟨i, hi, hc | hc⟩ := restartsCrc_present_iff.1 he
    · rw [step_present, runWord_of_decode hi, exec_of_runsCommand hc]
      exact ⟨_, exec_crcInit _, rfl, rfl⟩
    · rw [step_present, runWord_of_decode hi, exec_of_runsCommand hc]
      exact ⟨_, exec_clear _, rfl, rfl⟩

/-! ### Runs -/

/-- A step takes the next event and leaves the others. -/
theorem step_hostQueue {s t : State} {e : HostEvent} {rest : List HostEvent} (hq : s.hostQueue = e :: rest)
    (ht : step s = .next t) : t.hostQueue = rest := by
  rcases step_cases s with ⟨hq', -⟩ | ⟨_, hq', h⟩ | ⟨w, _, i, hq', -, h⟩ | ⟨w, _, _, hq', -, h⟩ <;>
    cases hq.symm.trans hq'
  · cases ht.symm.trans h
    rfl
  · obtain ⟨u, hu, hqueue, -⟩ := execIgnoresComingEvents i { s with hostQueue := rest } [] 0
    cases ht.symm.trans (h.trans hu)
    exact hqueue
  · cases ht.symm.trans h
    rfl

theorem run_succ_of_step {s t : State} (h : step s = .next t) (n : Nat) : core.run (n + 1) s = core.run n t := by
  have hstep : core.step s = .next t := h
  simp only [Host.Core.run, hstep]

theorem crcFed_succ_of_step {s t : State} (h : step s = .next t) (n : Nat) :
    crcFed (n + 1) s = (if feedsNext s then [s.crcDin] else []) ++ crcFed n t := by
  rw [crcFed, h]

/-- R119 over a run: CRC_ACC takes in the bytes fed, in their order. -/
theorem run_crcAcc {events rest : List HostEvent} {s : State} {p : List Byte} (hq : s.hostQueue = events ++ rest)
    (hacc : s.crcAcc = crcRegister p) (hnone : ∀ x ∈ events, restartsCrc x = false) :
    ∃ u : State, core.run events.length s = .next u ∧ u.hostQueue = rest ∧
      u.crcAcc = crcRegister (p ++ crcFed events.length s) := by
  induction events generalizing s p with
  | nil => exact ⟨s, rfl, hq, by simp [hacc, crcFed]⟩
  | cons e events ih =>
    have hnext : ∀ x ∈ s.hostQueue.head?, restartsCrc x = false := by
      rw [hq]
      rintro x ⟨⟩
      exact hnone _ List.mem_cons_self
    obtain ⟨t, ht, htacc⟩ := step_crcAcc hacc hnext
    obtain ⟨u, hu, huq, huacc⟩ := ih (step_hostQueue hq ht) htacc fun x hx => hnone x (List.mem_cons_of_mem _ hx)
    refine ⟨u, (run_succ_of_step ht _).trans hu, huq, ?_⟩
    rw [huacc, List.length_cons, crcFed_succ_of_step ht, List.append_assoc]

/-! ### The statements -/

/-- Settles O54: CRC_OUT is the checksum of the bytes that CRC_ACC has taken in. -/
theorem crcEngineStepFeedsOneByte : Obligations.CrcEngineStepFeedsOneByte := by
  intro s p hout hnext
  obtain ⟨t, ht, hacc⟩ := step_crcAcc (crcOut_eq_crc32_iff.1 hout) hnext
  exact ⟨t, ht, crcOut_eq_crc32_iff.2 hacc⟩

/-- Settles O38: the first event empties CRC_ACC, and the run after it takes in what is fed. -/
theorem crcEngineComputesCrc32 : Obligations.CrcEngineComputesCrc32 := by
  intro s e events rest he hnone
  obtain ⟨t, ht, htq, htacc⟩ := step_restart he s (events ++ rest)
  obtain ⟨u, hu, huq, huacc⟩ := run_crcAcc htq htacc hnone
  exact ⟨t, u, ht, hu, huq, crcOut_eq_crc32_iff.2 huacc⟩

end Sys2Proof.Machine
end

section
/-!
PROOFS. The host program's `load_rx` (spec/30_encoding.md R95, R96): one line a step, each a store into RXBUF or RX_COUNT, and the
statement O29.
-/

namespace Sys2Proof.Machine

/-- R95: the event of a `wr` line is the HOST_WRITE of its word. -/
theorem step_wr (s : State) (a : HAddr) (v : Word) (rest : List HostEvent) :
    step { s with hostQueue := (HostLine.wr a v).event :: rest } = exec (.hostWrite a v) { s with hostQueue := rest } :=
  (step_present s _ rest).trans (runWord_of_decode (encodeThenDecode (.hostWrite a v)) _)

theorem step_wr_rxbuf (s : State) (i : Fin 528) (b : Byte) (rest : List HostEvent) :
    step { s with hostQueue := (HostLine.wr (rxbufAddr i.val) (b.setWidth 32)).event :: rest } =
      .next { s with hostQueue := rest, rxbuf := s.rxbuf.set i b } := by
  have hbyte : (b.setWidth 32).extractLsb' 0 8 = b := by
    rw [← BitVec.setWidth_eq_extractLsb' (by decide)]
    exact (BitVec.setWidth_setWidth_of_le b (by decide)).trans (BitVec.setWidth_eq b)
  have haddr : rxbufAddr i.val = (Location.rxbuf i).offset := rfl
  rw [step_wr, haddr, exec_hostWrite_offset (input := .rxbuf i) rfl, storeInput_rxbuf, hbyte]

/-- R28, R40: RX_COUNT stores the low 16 bits of the number written to it. -/
theorem step_wr_rxCount (s : State) (n : Nat) (rest : List HostEvent) :
    step { s with hostQueue := (HostLine.wr Location.rxCount.offset (BitVec.ofNat 32 n)).event :: rest } =
      .next { s with hostQueue := rest, rxCount := BitVec.ofNat 16 n } := by
  have hcount : (BitVec.ofNat 32 n).extractLsb' 0 16 = BitVec.ofNat 16 n := by
    rw [← BitVec.setWidth_eq_extractLsb' (by decide)]
    exact BitVec.setWidth_ofNat_of_le (by decide) n
  rw [step_wr, exec_hostWrite_offset (input := .rxCount) rfl, storeInput_rxCount, hcount]

/-- The lines of a text write it into RXBUF from index `i` on, one a step, and touch nothing else; `n` more steps go on from there. -/
theorem run_rxWrites (text : List Byte) (i : Nat) (hfits : i + text.length ≤ 528) (s : State) (rest : List HostEvent)
    (n : Nat) :
    ∃ t : State,
      core.run (text.length + n) { s with hostQueue := (rxWrites i text).map HostLine.event ++ rest } = core.run n t ∧
      t = { s with hostQueue := rest, rxbuf := t.rxbuf } ∧
      (∀ (k : Nat) (hk : k < text.length), t.rxbuf[i + k] = text[k]) ∧
      ∀ j : Fin 528, j.val < i ∨ i + text.length ≤ j.val → t.rxbuf[j] = s.rxbuf[j] := by
  induction text generalizing i s with
  | nil => exact ⟨{ s with hostQueue := rest }, by rw [List.length_nil, Nat.zero_add]; rfl, rfl, nofun, fun _ _ => rfl⟩
  | cons b text ih =>
    rw [List.length_cons] at hfits
    obtain ⟨t, ht, hframe, hwritten, hkept⟩ := ih (i + 1) (by omega) { s with rxbuf := s.rxbuf.set i b }
    have hstep := step_wr_rxbuf s ⟨i, by omega⟩ b ((rxWrites (i + 1) text).map HostLine.event ++ rest)
    refine ⟨t, ?_, hframe, fun k hk => ?_, fun j hj => ?_⟩
    · rw [List.length_cons, Nat.add_right_comm]
      exact (run_succ_of_step hstep _).trans ht
    · cases k with
      | zero => exact (hkept ⟨i, by omega⟩ (.inl i.lt_succ_self)).trans (by simp)
      | succ k => simpa [Nat.add_assoc, Nat.add_comm 1] using hwritten k (Nat.lt_of_succ_lt_succ hk)
    · rw [List.length_cons] at hj
      have hne : i ≠ j.val := by omega
      exact (hkept j (by omega)).trans (by simp [hne])

/-- Settles O29: the lines of the text, and then the line of its length. -/
theorem loadRxPlacesText : Obligations.LoadRxPlacesText := by
  intro s text rest hfits
  obtain ⟨t, ht, hframe, hwritten, hkept⟩ := run_rxWrites text 0 (by omega) s
    ((HostLine.wr Location.rxCount.offset (BitVec.ofNat 32 text.length)).event :: rest) 1
  have hevents : (Pseudo.loadRx text).events ++ rest = (rxWrites 0 text).map HostLine.event ++
      (HostLine.wr Location.rxCount.offset (BitVec.ofNat 32 text.length)).event :: rest := by
    simp [Pseudo.events, Pseudo.expand, loadRxLines]
  have hlast : step t = .next { t with hostQueue := rest, rxCount := BitVec.ofNat 16 text.length } := by
    rw [hframe]
    exact step_wr_rxCount { s with rxbuf := t.rxbuf } text.length rest
  refine ⟨{ t with hostQueue := rest, rxCount := BitVec.ofNat 16 text.length }, ?_, by rw [hframe],
    candidate_of_getElem hfits ?_ ?_, fun j hj => hkept j ?_⟩
  · rw [hevents]
    exact ht.trans (run_succ_of_step hlast 0)
  · show (BitVec.ofNat 16 text.length).toNat = text.length
    rw [BitVec.toNat_ofNat]
    omega
  · intro i hi
    simpa using hwritten i hi
  · omega

end Sys2Proof.Machine
end
